-- ==== Sys2Proof/Word.lean ====
section
/-! DEFINITION. The machine's word types and the names of its registers (00_scope.md R4, R9); what an access
to memory is for a device (20_memory.md R61, R63). -/

namespace Sys2Proof

/-- A 16-bit register, logical address or instruction word (R4). -/
abbrev Word := BitVec 16

/-- An 8-bit byte (R4). -/
abbrev Byte := BitVec 8

/-- A 22-bit physical address (R4, R50). -/
abbrev Phys := BitVec 22

/-- The general registers r0..r5 (R20). -/
inductive Gpr where
  | r0 | r1 | r2 | r3 | r4 | r5
deriving DecidableEq, Repr

/-- The eight numbered registers (R9): r0..r5, sp = register 6, pc = register 7. -/
inductive Reg where
  | gpr (g : Gpr)
  | sp
  | pc
deriving DecidableEq, Repr

/-- The two encodings of the instruction set (R2): alternatives, not modes. -/
inductive IsaVariant where
  | full
  | mini
deriving DecidableEq, Repr

/-- The two logical address spaces (R51). -/
inductive Space where
  | code
  | data
deriving DecidableEq, Repr

/-- The two sizes of a memory access (R61). -/
inductive Width where
  | byte
  | word
deriving DecidableEq, Repr

/-- One access as the outside of the CPU sees it: where, how wide, and the value written (`none` for a read). A written
byte stands in the low half of `written`. -/
structure Access where
  addr : Phys
  width : Width
  written : Option Word
deriving DecidableEq, Repr

end Sys2Proof
end

