-- ==== Sys2Proof/Config.lean ====
section
/-! DEFINITION. What is fixed for the machine, and the free values (00_scope.md R5; 93_implementation_defined.md U1). -/

namespace Sys2Proof.Config

/-- The parameter `ISA_VARIANT` (R2, R5): which encoding `step` decodes. The full ISA is the default
(92_eei_decisions.md D2). DESIGN CHOICE (log 11), safe: `stepWith` takes the other value as an argument. -/
def isaVariant : IsaVariant := .full

/-- The byte that an address nothing has written reads as. DESIGN CHOICE (log 1), unsafe: the spec gives
RAM no contents after reset (R351). -/
def unlistedByte : Byte := 0

/-- The free value of an unspecified flag: the `n`-th fresh one-bit draw (93_implementation_defined.md U1).
It has no body, so nothing can be proved about the bit it gives (log 5), safe. -/
opaque freeFlag : Nat → Bool

/-- The free value a device gives where its description in `Platform` lists no answer (92_eei_decisions.md D20,
93_implementation_defined.md U17): any word, for the device of that number, after that history of device accesses
(newest first), at that access. It has no body (log 31), safe. -/
opaque deviceAnswer : Nat → List (Nat × Access) → Access → Word

end Sys2Proof.Config
end

