-- ==== Sys2Proof/Machine/State.lean ====
section
/-! DEFINITION. The machine's state as plain data (10_state.md), the reasons a step can stop, and the state after
reset (70_reset_and_hazards.md R350, R351). -/

namespace Sys2Proof.Machine

/-- The general registers r0..r5 (R20). -/
structure Regs where
  r0 : Word
  r1 : Word
  r2 : Word
  r3 : Word
  r4 : Word
  r5 : Word
deriving DecidableEq, Repr

/-- The arithmetic flags, bits 3:0 of the flags register (R28, R31). -/
structure Flags where
  /-- carry, or borrow after a subtraction -/
  c : Bool
  /-- zero -/
  z : Bool
  /-- sign -/
  s : Bool
  /-- signed overflow -/
  o : Bool
deriving DecidableEq, Repr

/-- The selector registers sel0..sel7 (R40): sel0..sel3 map the code space, sel4..sel7 the data space. -/
structure Selectors where
  sel0 : Byte
  sel1 : Byte
  sel2 : Byte
  sel3 : Byte
  sel4 : Byte
  sel5 : Byte
  sel6 : Byte
  sel7 : Byte
deriving DecidableEq, Repr

/-- One line of a device's description: in the device's own state `state`, the access `access` is answered with `answer`
(what a read gives) and leaves the device in the state `next`. -/
structure DeviceRule where
  state : Nat
  access : Access
  answer : Word
  next : Nat
deriving DecidableEq, Repr

/-- A device's read and write behaviour (the parameter `Platform`, R63; 92_eei_decisions.md D20): a table over a state of
the device's own, `start` at reset. What the table does not list is a free value (log 31). -/
structure Device where
  number : Nat
  start : Nat
  rules : List DeviceRule
deriving DecidableEq, Repr

/-- What answers at a physical address (the parameter `Platform`, R5, R54): RAM; ROM, which ignores writes or does not
say what they do; a device with its behaviour; or nothing, where a read gives a fixed byte and a write goes nowhere, or
the platform does not say what happens (R310 table; U17; log 4). -/
inductive BusKind where
  | ram
  | rom (ignoresWrites : Bool)
  | device (d : Device)
  | absent (floating : Option Byte)
deriving DecidableEq, Repr

/-- A stretch of physical addresses and what answers there. -/
structure Region where
  base : Nat
  size : Nat
  kind : BusKind
deriving DecidableEq, Repr

/-- Physical memory: (address, byte) pairs, addresses strictly rising, no byte equal to what an unlisted address
reads as (`Memory.Wf` of Machine/Ops.lean). -/
abbrev Memory := List Host.Cell

/-- The whole state of the machine. `platform` and `irqEvents` hold the parameters of those names (R5); `busLog`
is what the devices have seen, from which their states follow (log 31); `draws` is the model's own counter of fresh flag
values (log 5). -/
structure State where
  /-- r0..r5 (R20) -/
  regs : Regs
  /-- register 6, bit 0 always 0 (R23) -/
  sp : Word
  /-- register 7, bit 0 always 0 (R25); during an instruction, that instruction's address -/
  pc : Word
  /-- the arithmetic flags (R31) -/
  flags : Flags
  /-- MASK[5..0], bits 15:10 of the flags register (R29) -/
  mask : BitVec 6
  /-- REQ[5..0], bits 9:4 of the flags register (R30) -/
  req : BitVec 6
  /-- the external/hardware interrupt enable flag (R33) -/
  ie : Bool
  /-- sel0..sel7 (R40) -/
  sels : Selectors
  /-- physical memory (R43) -/
  mem : Memory
  /-- the physical map: the first region that holds an address decides; elsewhere RAM (log 3) -/
  platform : List Region
  /-- the lines with an active edge, one set per coming instruction boundary; none after the last (R312, log 6) -/
  irqEvents : List (BitVec 6)
  /-- every access to a device since reset, newest first, with the device's number (R63, R70; log 31) -/
  busLog : List (Nat × Access)
  /-- how many fresh flag values have been drawn (log 5) -/
  draws : Nat
deriving DecidableEq, Repr

/-- Why the machine stops without a next state. None of these is an event of the hardware (R310): each marks a
point where the spec gives no behaviour. -/
inductive Fault where
  /-- A word access at an odd logical address (R60, U7). Raised by the word read and write operations. Safe. -/
  | misaligned (space : Space) (addr : Word)
  /-- A selector number above 7 in `msr` or `mrs` (R114, U6). Safe. -/
  | reservedSelector (number : Word)
  /-- An access where nothing answers and `Platform` does not say what the bus returns (R310 table, U17). Raised by the
  bus operations. Safe. -/
  | absentAddress (addr : Phys)
  /-- A write to ROM where `Platform` does not say what that does (R310 table, U17). Raised by the bus write. Safe. -/
  | romWrite (addr : Phys)
deriving DecidableEq, Repr

/-- Why an instruction has no meaning. -/
inductive Refusal where
  /-- No meaning written yet; raised by `exec`'s arm only. Safe. -/
  | notModelled (mnemonic : String)
  /-- A reserved encoding (R112, R301, U2, U3, U4, U5): the spec gives it no effect. Raised by the `reserved…`
  instructions. Safe. -/
  | reservedEncoding (word : Word)
deriving DecidableEq, Repr

/-- The values reset leaves unspecified (the parameter `ResetUnspecified`, R351, R5): any assignment. -/
structure Unspecified where
  regs : Regs
  /-- bits 15:1 of sp; bit 0 is 0 (R351) -/
  spHigh : BitVec 15
  flags : Flags
  mask : BitVec 6
  req : BitVec 6
  sel1 : Byte
  sel2 : Byte
  sel3 : Byte
  sel5 : Byte
  sel6 : Byte
  sel7 : Byte
  mem : Memory
deriving DecidableEq, Repr

/-- The state right after reset, for given values of everything the spec leaves open there (R350, R351): pc = 0,
IE = 0, sel0 = 0, sel4 = 0. No device has been accessed yet. -/
def State.resetWith (u : Unspecified) (platform : List Region) (irqEvents : List (BitVec 6)) (draws : Nat) : State where
  regs := u.regs
  sp := u.spHigh ++ 0#1
  pc := 0
  flags := u.flags
  mask := u.mask
  req := u.req
  ie := false
  sels :=
    { sel0 := 0, sel1 := u.sel1, sel2 := u.sel2, sel3 := u.sel3
      sel4 := 0, sel5 := u.sel5, sel6 := u.sel6, sel7 := u.sel7 }
  mem := u.mem
  platform := platform
  irqEvents := irqEvents
  busLog := []
  draws := draws

/-- Zero for everything reset leaves unspecified. DESIGN CHOICE (log 2), unsafe. -/
def Unspecified.zero : Unspecified where
  regs := { r0 := 0, r1 := 0, r2 := 0, r3 := 0, r4 := 0, r5 := 0 }
  spHigh := 0
  flags := { c := false, z := false, s := false, o := false }
  mask := 0
  req := 0
  sel1 := 0
  sel2 := 0
  sel3 := 0
  sel5 := 0
  sel6 := 0
  sel7 := 0
  mem := []

/-- The machine right after reset (R350); unspecified values zero (log 2), RAM everywhere (log 3), no interrupt
edges (log 6). -/
def State.reset : State := State.resetWith Unspecified.zero [] [] 0

end Sys2Proof.Machine
end

