-- ==== Sys2Proof/Machine/Ops.lean ====
section
/-! DEFINITION. The named operations over registers, memory, selectors and interrupts. Every meaning is written over
these. -/

namespace Sys2Proof.Machine

/-- What executing an instruction gives. -/
abbrev Result := Host.Outcome State Fault Refusal

/-! ### Registers (R9, R20 to R27) -/

/-- A general register's value. -/
def Regs.get (r : Regs) : Gpr → Word
  | .r0 => r.r0 | .r1 => r.r1 | .r2 => r.r2 | .r3 => r.r3 | .r4 => r.r4 | .r5 => r.r5

/-- The registers with one general register written. -/
def Regs.set (r : Regs) (g : Gpr) (v : Word) : Regs :=
  match g with
  | .r0 => { r with r0 := v }
  | .r1 => { r with r1 := v }
  | .r2 => { r with r2 := v }
  | .r3 => { r with r3 := v }
  | .r4 => { r with r4 := v }
  | .r5 => { r with r5 := v }

/-- A value as sp and pc hold it: bit 0 is always 0 (R23, R25; log 12). -/
def dropBit0 (v : Word) : Word := v &&& 0xFFFE#16

/-- The address of the immediately following instruction, modulo 2^16 (R9, R25). -/
def State.npc (s : State) : Word := s.pc + 2

/-- `x[g]` for a general register (R9). -/
def State.gpr (s : State) (g : Gpr) : Word := s.regs.get g

/-- `x[i]` (R9). -/
def State.x (s : State) : Reg → Word
  | .gpr g => s.gpr g
  | .sp => s.sp
  | .pc => s.pc

/-- `src(i)`: what an instruction reads for a source operand; pc reads as npc (R9, R26; log 13). -/
def State.src (s : State) : Reg → Word
  | .gpr g => s.gpr g
  | .sp => s.sp
  | .pc => s.npc

def State.setGpr (s : State) (g : Gpr) (v : Word) : State := { s with regs := s.regs.set g v }

/-- Write sp: bit 0 is dropped (R23). -/
def State.setSp (s : State) (v : Word) : State := { s with sp := dropBit0 v }

/-- Write pc: bit 0 is dropped (R25). -/
def State.setPc (s : State) (v : Word) : State := { s with pc := dropBit0 v }

/-- `x[i] <- v` (R9). -/
def State.setReg (s : State) (r : Reg) (v : Word) : State :=
  match r with
  | .gpr g => s.setGpr g v
  | .sp => s.setSp v
  | .pc => s.setPc v

/-- `pc <- npc`: how an instruction that does not transfer control ends (R9). -/
def State.advance (s : State) : State := s.setPc s.npc

def State.setFlags (s : State) (f : Flags) : State := { s with flags := f }

def State.setMask (s : State) (m : BitVec 6) : State := { s with mask := m }

def State.setReq (s : State) (r : BitVec 6) : State := { s with req := r }

def State.setIe (s : State) (b : Bool) : State := { s with ie := b }

def State.setSels (s : State) (t : Selectors) : State := { s with sels := t }

def State.setMem (s : State) (m : Memory) : State := { s with mem := m }

def State.setBusLog (s : State) (l : List (Nat × Access)) : State := { s with busLog := l }

def State.setDraws (s : State) (n : Nat) : State := { s with draws := n }

/-- A bit as an instruction bit. -/
def boolBit (b : Bool) : BitVec 1 := BitVec.ofBool b

/-- The flags register as one word: MASK in 15:10, REQ in 9:4, then O, S, Z, C (R28; log 24). -/
def State.flagsWord (s : State) : Word :=
  s.mask ++ s.req ++ boolBit s.flags.o ++ boolBit s.flags.s ++ boolBit s.flags.z ++ boolBit s.flags.c

/-! ### Selectors and translation (R40, R52) -/

/-- A selector's value. -/
def Selectors.get (t : Selectors) : Fin 8 → Byte
  | 0 => t.sel0 | 1 => t.sel1 | 2 => t.sel2 | 3 => t.sel3
  | 4 => t.sel4 | 5 => t.sel5 | 6 => t.sel6 | 7 => t.sel7

/-- The selectors with one of them written. -/
def Selectors.set (t : Selectors) (k : Fin 8) (v : Byte) : Selectors :=
  match k with
  | 0 => { t with sel0 := v }
  | 1 => { t with sel1 := v }
  | 2 => { t with sel2 := v }
  | 3 => { t with sel3 := v }
  | 4 => { t with sel4 := v }
  | 5 => { t with sel5 := v }
  | 6 => { t with sel6 := v }
  | 7 => { t with sel7 := v }

/-- The selector that maps an address: its quarter, plus 4 in the data space (R52). -/
def selIndex (sp : Space) (a : Word) : Fin 8 :=
  match sp, (a.extractLsb' 14 2).toNat with
  | .code, 0 => 0
  | .code, 1 => 1
  | .code, 2 => 2
  | .code, _ => 3
  | .data, 0 => 4
  | .data, 1 => 5
  | .data, 2 => 6
  | .data, _ => 7

/-- The physical address of a logical address (R52): the selector's byte above the low 14 bits. -/
def State.translate (s : State) (sp : Space) (a : Word) : Phys :=
  s.sels.get (selIndex sp a) ++ a.extractLsb' 0 14

/-- The selector number a register holds: the whole 16-bit value, above 7 reserved (R274, R275; log 10). -/
def selectorNumber (n : Word) : Option (Fin 8) :=
  if h : n.toNat < 8 then some ⟨n.toNat, h⟩ else none

/-! ### Physical memory and the platform (R43, R54) -/

/-- The byte at a physical address. -/
def Memory.read : Memory → Nat → Byte
  | [], _ => Config.unlistedByte
  | (b, v) :: rest, a => if a = b then v else Memory.read rest a

/-- Memory without an address. -/
def Memory.erase : Memory → Nat → Memory
  | [], _ => []
  | (b, v) :: rest, a => if a = b then Memory.erase rest a else (b, v) :: Memory.erase rest a

/-- Memory with an entry put in its place by rising address. -/
def Memory.insert : Memory → Nat → Byte → Memory
  | [], a, v => [(a, v)]
  | (b, w) :: rest, a, v => if a < b then (a, v) :: (b, w) :: rest else (b, w) :: Memory.insert rest a v

/-- Write a byte, keeping the canonical form: a byte equal to what an unlisted address reads as is not listed. -/
def Memory.write (m : Memory) (a : Nat) (v : Byte) : Memory :=
  if v = Config.unlistedByte then m.erase a else (m.erase a).insert a v

/-- The canonical form: addresses strictly rising and within the 22-bit space, no entry equal to the unlisted byte. -/
abbrev Memory.Wf (m : Memory) : Prop :=
  m.Pairwise (fun c d => c.1 < d.1) ∧ ∀ c ∈ m, c.1 < 2 ^ 22 ∧ c.2 ≠ Config.unlistedByte

/-- What answers at a physical address: the first region that holds it, else RAM (log 3). -/
def kindAt : List Region → Nat → BusKind
  | [], _ => .ram
  | r :: rest, a => if r.base ≤ a ∧ a < r.base + r.size then r.kind else kindAt rest a

/-! ### Devices (R63; 92_eei_decisions.md D20; log 31) -/

/-- The line of a device's table for an access in a state of the device: the first that lists it. -/
def Device.lineFor (d : Device) (state : Nat) (a : Access) : Option DeviceRule :=
  d.rules.find? fun r => r.state == state && r.access == a

/-- The state a device is in after a history of device accesses; an access its table does not list leaves it. -/
def Device.stateAfter (d : Device) : List (Nat × Access) → Nat
  | [] => d.start
  | (n, a) :: earlier =>
    let state := d.stateAfter earlier
    if n = d.number then ((d.lineFor state a).map DeviceRule.next).getD state else state

/-- What a device gives at an access after a history: what its table lists, else a free value. -/
def Device.answer (d : Device) (log : List (Nat × Access)) (a : Access) : Word :=
  match d.lineFor (d.stateAfter log) a with
  | some r => r.answer
  | none => Config.deviceAnswer d.number log a

/-- A device sees an access. -/
def State.deviceSees (s : State) (d : Device) (a : Access) : State := s.setBusLog ((d.number, a) :: s.busLog)

/-- The device that answers a word access as a whole: the one that has both its bytes (log 32). -/
def State.wordDevice (s : State) (p q : Phys) : Option Device :=
  match kindAt s.platform p.toNat, kindAt s.platform q.toNat with
  | .device d, .device e => if d = e then some d else none
  | _, _ => none

/-! ### The bus -/

/-- Whether memory answers a read. -/
def State.readable (s : State) (p : Phys) : Bool :=
  match kindAt s.platform p.toNat with
  | .ram => true
  | .rom _ => true
  | .device _ => false
  | .absent _ => false

/-- Whether memory stores what is written. -/
def State.writable (s : State) (p : Phys) : Bool :=
  match kindAt s.platform p.toNat with
  | .ram => true
  | .rom _ => false
  | .device _ => false
  | .absent _ => false

/-- The byte held at a physical address. -/
def State.byteAt (s : State) (p : Phys) : Byte := s.mem.read p.toNat

/-- Read a byte on the bus: its value, and the state after a read that a device has seen (R63, U17; logs 4, 31). -/
def State.busRead (s : State) (p : Phys) : Except Fault (Byte × State) :=
  match kindAt s.platform p.toNat with
  | .ram => .ok (s.byteAt p, s)
  | .rom _ => .ok (s.byteAt p, s)
  | .device d =>
    let a : Access := { addr := p, width := .byte, written := none }
    .ok ((d.answer s.busLog a).extractLsb' 0 8, s.deviceSees d a)
  | .absent (some v) => .ok (v, s)
  | .absent none => .error (.absentAddress p)

/-- Write a byte on the bus (R63, U17; logs 4, 31). -/
def State.busWrite (s : State) (p : Phys) (v : Byte) : Except Fault State :=
  match kindAt s.platform p.toNat with
  | .ram => .ok (s.setMem (s.mem.write p.toNat v))
  | .rom true => .ok s
  | .rom false => .error (.romWrite p)
  | .device d => .ok (s.deviceSees d { addr := p, width := .byte, written := some (v.setWidth 16) })
  | .absent (some _) => .ok s
  | .absent none => .error (.absentAddress p)

/-! ### The memory primitives (R55 to R58) -/

/-- `MemRead(space, a, 1)` (R55). -/
def State.readByte (s : State) (sp : Space) (a : Word) : Except Fault (Byte × State) :=
  s.busRead (s.translate sp a)

/-- `MemRead(space, a, 2)`: little-endian, even addresses only (R56, R60); a device sees one word access (log 32). -/
def State.readWord (s : State) (sp : Space) (a : Word) : Except Fault (Word × State) :=
  if a.getLsbD 0 then .error (.misaligned sp a)
  else
    match s.wordDevice (s.translate sp a) (s.translate sp (a + 1)) with
    | some d =>
      let e : Access := { addr := s.translate sp a, width := .word, written := none }
      .ok (d.answer s.busLog e, s.deviceSees d e)
    | none =>
      match s.readByte sp a with
      | .error f => .error f
      | .ok (lo, s1) =>
        match s1.readByte sp (a + 1) with
        | .error f => .error f
        | .ok (hi, s2) => .ok (hi ++ lo, s2)

/-- `MemWrite(space, a, 1, v)` (R57). -/
def State.writeByte (s : State) (sp : Space) (a : Word) (v : Byte) : Except Fault State :=
  s.busWrite (s.translate sp a) v

/-- `MemWrite(space, a, 2, v)`: little-endian, even addresses only (R58, R60); a device sees one word access (log 32). A
stop leaves nothing written (log 28). -/
def State.writeWord (s : State) (sp : Space) (a : Word) (v : Word) : Except Fault State :=
  if a.getLsbD 0 then .error (.misaligned sp a)
  else
    match s.wordDevice (s.translate sp a) (s.translate sp (a + 1)) with
    | some d => .ok (s.deviceSees d { addr := s.translate sp a, width := .word, written := some v })
    | none =>
      match s.writeByte sp a (v.extractLsb' 0 8) with
      | .error f => .error f
      | .ok s1 => s1.writeByte sp (a + 1) (v.extractLsb' 8 8)

/-- The little-endian word held at a logical address (whatever the platform answers). -/
def State.wordAt (s : State) (sp : Space) (a : Word) : Word :=
  s.byteAt (s.translate sp (a + 1)) ++ s.byteAt (s.translate sp a)

/-- Whether a word can be read at an address: even, and both bytes answered by memory. -/
def State.canReadWord (s : State) (sp : Space) (a : Word) : Bool :=
  !a.getLsbD 0 && s.readable (s.translate sp a) && s.readable (s.translate sp (a + 1))

/-- Whether a word can be written at an address: even, and both bytes in RAM. -/
def State.canWriteWord (s : State) (sp : Space) (a : Word) : Bool :=
  !a.getLsbD 0 && s.writable (s.translate sp a) && s.writable (s.translate sp (a + 1))

/-- The state with a byte put at a logical address. -/
def State.putByte (s : State) (sp : Space) (a : Word) (v : Byte) : State :=
  s.setMem (s.mem.write (s.translate sp a).toNat v)

/-- The state with a little-endian word put at a logical address. -/
def State.putWord (s : State) (sp : Space) (a : Word) (v : Word) : State :=
  (s.putByte sp a (v.extractLsb' 0 8)).putByte sp (a + 1) (v.extractLsb' 8 8)

/-- `s` with a byte of physical memory replaced, whatever the platform has there. -/
def State.pokeByte (s : State) (p : Phys) (v : Byte) : State := s.setMem (s.mem.write p.toNat v)

/-- Go on with what was read or written, or stop with its fault. -/
def andThen {α : Type} (r : Except Fault α) (k : α → Result) : Result :=
  match r with
  | .ok v => k v
  | .error f => .fault f

/-! ### Fresh values of unspecified flags (U1; log 5) -/

/-- The `k`-th fresh bit of the present instruction. -/
def State.freshFlag (s : State) (k : Nat) : Bool := Config.freeFlag (s.draws + k)

/-- `n` fresh bits have been drawn. -/
def State.drawn (s : State) (n : Nat) : State := s.setDraws (s.draws + n)

/-! ### Interrupts (60_exceptions.md) -/

/-- The word interrupt entry saves: the pc with IE in bit 0 (R315). -/
def savedWord (savedpc : Word) (ie : Bool) : Word := dropBit0 savedpc ||| (boolBit ie).setWidth 16

/-- `InterruptEntry(vector, savedpc)`, taken by `swi` and by hardware interrupts (R315): the saved word goes to data
address sp - 2, IE is cleared, pc is the vector; sp and everything else stay. -/
def State.interruptEntry (s : State) (vector savedpc : Word) : Result :=
  andThen (s.writeWord .data (s.sp - 2) (savedWord savedpc s.ie)) fun s1 =>
    .next ((s1.setIe false).setPc vector)

/-- Return from an interrupt (R271, R322): IE and pc from the word at data address sp - 2; sp and everything else
stay. -/
def State.interruptReturn (s : State) : Result :=
  andThen (s.readWord .data (s.sp - 2)) fun (v, s1) =>
    .next ((s1.setIe (v.getLsbD 0)).setPc v)

/-- Latch the edges of this instruction boundary, whatever MASK and IE are (R30, R312, D14; log 6). -/
def State.latchIrq (s : State) : State :=
  match s.irqEvents with
  | [] => s
  | e :: rest => { s with req := s.req ||| e, irqEvents := rest }

/-- Whether an interrupt is taken at this boundary (R313). -/
def State.irqPending (s : State) : Bool := s.ie && (s.req &&& s.mask != 0)

/-- The common entry point of the hardware interrupts (R317, R318). -/
def irqVector : Word := 0x003E#16

/-- `Fetch(pc)`: the instruction word at pc in the code space (R11, R59), and the state after its one read (R63). -/
def State.fetch (s : State) : Except Fault (Word × State) := s.readWord .code s.pc

end Sys2Proof.Machine
end

