-- ==== Sys2Proof/Machine/Flags.lean ====
section
/-! DEFINITION. The flag computations (44_alu.md R180 to R182), the shifts (45_shifts.md R210) and the jump conditions
(47_control.md R243 to R257). -/

namespace Sys2Proof.Machine

/-- A carry or borrow as a number. -/
def carryNat (c : Bool) : Nat := if c then 1 else 0

/-- Whether an exact signed result falls outside 16 bits (R180). -/
def signedOverflow (t : Int) : Bool := decide (t < -32768) || decide (t > 32767)

/-- `AddFlags(a, b, cin)`: the sum and its flags, computed exactly and then narrowed (R180). -/
def addFlags (a b : Word) (cin : Bool) : Word × Flags :=
  let u := a.toNat + b.toNat + carryNat cin
  let res := BitVec.ofNat 16 u
  (res, { c := decide (u ≥ 65536), z := res == 0, s := res.getLsbD 15
          o := signedOverflow (a.toInt + b.toInt + (carryNat cin : Int)) })

/-- `SubFlags(a, b, bin)`: C is the borrow (R181). -/
def subFlags (a b : Word) (bin : Bool) : Word × Flags :=
  let u : Int := (a.toNat : Int) - b.toNat - carryNat bin
  let res := BitVec.ofInt 16 u
  (res, { c := decide (u < 0), z := res == 0, s := res.getLsbD 15
          o := signedOverflow (a.toInt - b.toInt - (carryNat bin : Int)) })

/-- `LogicFlags(res)` (R182). -/
def logicFlags (res : Word) : Flags :=
  { c := false, z := res == 0, s := res.getLsbD 15, o := false }

/-! ### Shifts and rotates (R210) -/

/-- `SR(v, n)`: zeros enter at bit 15. -/
def shiftRight (v : Word) (n : Nat) : Word := v >>> n

/-- `SL(v, n)`: zeros enter at bit 0. -/
def shiftLeft (v : Word) (n : Nat) : Word := v <<< n

/-- `ASR(v, n)`: copies of bit 15 enter. -/
def shiftArith (v : Word) (n : Nat) : Word := v.sshiftRight n

/-- `RL(v, n)` for n in 0..15. -/
def rotateLeft (v : Word) (n : Nat) : Word := (v <<< n) ||| (v >>> (16 - n))

/-- `RR(v, n)` for n in 0..15. -/
def rotateRight (v : Word) (n : Nat) : Word := (v >>> n) ||| (v <<< (16 - n))

/-- The count of the register forms: the four low bits, the others ignored (R221). -/
def shiftCount (v : Word) : Nat := (v.extractLsb' 0 4).toNat

/-! ### Conditions (R244 to R257; formulas are decision D19 of the spec, log 17) -/

/-- c/lu (R244). -/
def condC (f : Flags) : Bool := f.c
/-- z/e (R245). -/
def condZ (f : Flags) : Bool := f.z
/-- s (R246). -/
def condS (f : Flags) : Bool := f.s
/-- leu (R247). -/
def condLeu (f : Flags) : Bool := f.c || f.z
/-- l (R248). -/
def condL (f : Flags) : Bool := f.s != f.o
/-- le (R249). -/
def condLe (f : Flags) : Bool := f.z || f.s != f.o
/-- o (R250). -/
def condO (f : Flags) : Bool := f.o
/-- no (R251). -/
def condNo (f : Flags) : Bool := !f.o
/-- nc/geu (R252). -/
def condNc (f : Flags) : Bool := !f.c
/-- nz/ne (R253). -/
def condNz (f : Flags) : Bool := !f.z
/-- ns (R254). -/
def condNs (f : Flags) : Bool := !f.s
/-- gu (R255). -/
def condGu (f : Flags) : Bool := !f.c && !f.z
/-- ge (R256). -/
def condGe (f : Flags) : Bool := f.s == f.o
/-- g (R257). -/
def condG (f : Flags) : Bool := !f.z && f.s == f.o

end Sys2Proof.Machine
end

