-- ==== Sys2Proof/Machine/Operands.lean ====
section
/-! DEFINITION. Operand forms: immediates, effective addresses and jump targets (30_encoding.md R83, R84;
40_loads_stores.md R120, R121). All sums are modulo 2^16 (R75; log 20). -/

namespace Sys2Proof.Machine

/-- `sext_N(v)` modulo 2^16 (R7). -/
def sext {n : Nat} (v : BitVec n) : Word := v.signExtend 16

/-- `zext_N(v)` as a register value (R7). -/
def zext {n : Nat} (v : BitVec n) : Word := v.setWidth 16

/-- `ximm7`: zero-extended when added to sp, sign-extended otherwise (R84, R120). -/
def ximm7 (b : Reg) (i : BitVec 7) : Word :=
  match b with
  | .sp => zext i
  | .gpr _ => sext i
  | .pc => sext i

/-- The space of an address formed with a register: code with pc, data otherwise (R51, R120, R121). -/
def spaceOf : Reg → Space
  | .pc => .code
  | .sp => .data
  | .gpr _ => .data

/-- Register + immediate address (R120). -/
def State.eaImm (s : State) (b : Reg) (i : BitVec 7) : Word := s.src b + ximm7 b i

/-- Register + register address (R121). -/
def State.eaReg (s : State) (p : Gpr) (q : Reg) : Word := s.gpr p + s.src q

/-- The address `sp + imm7` of the sp-relative `incm` family (R156). -/
def State.eaSp (s : State) (i : BitVec 7) : Word := s.sp + zext i

/-- `imm9 << 7`, the 9 bits in register bits 15:7 (R83, R202, R230). -/
def upperImm (n : BitVec 9) : Word := n ++ 0#7

/-- A distance in instructions as a distance in bytes: `2 * sext_N` (R83). -/
def byteDistance {n : Nat} (k : BitVec n) : Word := sext k <<< 1

/-- The target of a pc-relative jump (R241, R243, R258). -/
def State.relTarget {n : Nat} (s : State) (k : BitVec n) : Word := s.npc + byteDistance k

/-- `2 * imm6`, the byte count of `last` (R83, R261). -/
def lastBytes (k : BitVec 6) : Word := zext k <<< 1

/-- The entry address of `swi simm6` (R270): `2 * sext_6(simm6)`. -/
def swiVector (k : BitVec 6) : Word := byteDistance k

end Sys2Proof.Machine
end

