-- ==== Sys2Proof/Machine/Alu.lean ====
section
/-! DEFINITION. The ALU instructions (44_alu.md). -/

namespace Sys2Proof.Machine

/-- Write a result and its flags and go on. -/
def aluResult (s : State) (d : Gpr) (r : Word × Flags) : Result :=
  .next ((s.advance.setGpr d r.1).setFlags r.2)

/-- Write a logical result, its flags from `LogicFlags`, and go on (R182). -/
def logicResult (s : State) (d : Gpr) (v : Word) : Result := aluResult s d (v, logicFlags v)

/-- Set flags only and go on (R191, R198). -/
def flagsResult (s : State) (f : Flags) : Result := .next (s.advance.setFlags f)

/-- Write a general register, flags preserved, and go on. -/
def plainResult (s : State) (d : Gpr) (v : Word) : Result := .next (s.advance.setGpr d v)

/-- `zxt PPP` (R183). -/
def execZxt (r : Gpr) (s : State) : Result := plainResult s r (s.gpr r &&& 0x00FF#16)

/-- `sxt PPP` (R184). -/
def execSxt (r : Gpr) (s : State) : Result := plainResult s r (sext ((s.gpr r).extractLsb' 0 8))

/-- `cpl PPP` (R185). -/
def execCpl (r : Gpr) (s : State) : Result := plainResult s r (~~~(s.gpr r))

/-- `neg PPP` (R186). -/
def execNeg (r : Gpr) (s : State) : Result := aluResult s r (subFlags 0 (s.gpr r) false)

/-- `adcz rrr` (R187). -/
def execAdcz (r : Gpr) (s : State) : Result := aluResult s r (addFlags (s.gpr r) 0 s.flags.c)

/-- `and RRR, imm7` (R188). -/
def execAndImm (r : Gpr) (i : BitVec 7) (s : State) : Result := logicResult s r (s.gpr r &&& zext i)

/-- `or RRR, imm7` (R189). -/
def execOrImm (r : Gpr) (i : BitVec 7) (s : State) : Result := logicResult s r (s.gpr r ||| zext i)

/-- `xor RRR, imm7` (R190). -/
def execXorImm (r : Gpr) (i : BitVec 7) (s : State) : Result := logicResult s r (s.gpr r ^^^ zext i)

/-- `cmp RRR, simm7` (R191). -/
def execCmpImm (r : Gpr) (i : BitVec 7) (s : State) : Result :=
  flagsResult s (subFlags (s.gpr r) (sext i) false).2

/-- `add rrr, RRR, simm7` with rrr in r0..r5 (R192). -/
def execAddImm (d : Gpr) (b : Reg) (i : BitVec 7) (s : State) : Result :=
  aluResult s d (addFlags (s.src b) (sext i) false)

/-- `add sp, RRR, simm7`, flags preserved (R193). -/
def execAddSp (b : Reg) (i : BitVec 7) (s : State) : Result := .next (s.advance.setSp (s.src b + sext i))

/-- `addu rrr, imm9` (R202): flags as for `add` when the register is r0..r5; preserved when it is sp (C1), the only
other register the encoding admits. -/
def execAddu (d : Reg) (n : BitVec 9) (s : State) : Result :=
  match d with
  | .gpr g => aluResult s g (addFlags (s.gpr g) (upperImm n) false)
  | d => .next (s.advance.setReg d (s.x d + upperImm n))

/-- `add PPP, qqq` (R194). -/
def execAddReg (r : Gpr) (q : Reg) (s : State) : Result := aluResult s r (addFlags (s.gpr r) (s.src q) false)

/-- `adc PPP, qqq` (R195). -/
def execAdcReg (r : Gpr) (q : Reg) (s : State) : Result := aluResult s r (addFlags (s.gpr r) (s.src q) s.flags.c)

/-- `sub PPP, qqq` (R196). -/
def execSubReg (r : Gpr) (q : Reg) (s : State) : Result := aluResult s r (subFlags (s.gpr r) (s.src q) false)

/-- `sbb PPP, qqq` (R197). -/
def execSbbReg (r : Gpr) (q : Reg) (s : State) : Result := aluResult s r (subFlags (s.gpr r) (s.src q) s.flags.c)

/-- `cmp PPP, qqq` (R198). -/
def execCmpReg (r : Gpr) (q : Reg) (s : State) : Result :=
  flagsResult s (subFlags (s.gpr r) (s.src q) false).2

/-- `and rrr, qqq` (R199). -/
def execAndReg (r : Gpr) (q : Reg) (s : State) : Result := logicResult s r (s.gpr r &&& s.src q)

/-- `or rrr, qqq` (R200). -/
def execOrReg (r : Gpr) (q : Reg) (s : State) : Result := logicResult s r (s.gpr r ||| s.src q)

/-- `xor rrr, qqq` (R201). -/
def execXorReg (r : Gpr) (q : Reg) (s : State) : Result := logicResult s r (s.gpr r ^^^ s.src q)

end Sys2Proof.Machine
end

