-- ==== Sys2Proof/Machine/Control.lean ====
section
/-! DEFINITION. Jumps and subroutine linkage (47_control.md). All preserve the flags (R240). -/

namespace Sys2Proof.Machine

/-- `j simm8` (R241); `j 0` is the nop (R242). -/
def execJ (k : BitVec 8) (s : State) : Result := .next (s.setPc (s.relTarget k))

/-- A conditional jump (R243). -/
def jumpIf (cond : Bool) (i : BitVec 7) (s : State) : Result :=
  .next (if cond then s.setPc (s.relTarget i) else s.advance)

/-- `jc` = `jlu` (R244). -/
def execJc (i : BitVec 7) (s : State) : Result := jumpIf (condC s.flags) i s
/-- `jz` = `je` (R245). -/
def execJz (i : BitVec 7) (s : State) : Result := jumpIf (condZ s.flags) i s
/-- `js` (R246). -/
def execJs (i : BitVec 7) (s : State) : Result := jumpIf (condS s.flags) i s
/-- `jleu` (R247). -/
def execJleu (i : BitVec 7) (s : State) : Result := jumpIf (condLeu s.flags) i s
/-- `jl` (R248). -/
def execJl (i : BitVec 7) (s : State) : Result := jumpIf (condL s.flags) i s
/-- `jle` (R249). -/
def execJle (i : BitVec 7) (s : State) : Result := jumpIf (condLe s.flags) i s
/-- `jo` (R250). -/
def execJo (i : BitVec 7) (s : State) : Result := jumpIf (condO s.flags) i s
/-- `jno` (R251). -/
def execJno (i : BitVec 7) (s : State) : Result := jumpIf (condNo s.flags) i s
/-- `jnc` = `jgeu` (R252). -/
def execJnc (i : BitVec 7) (s : State) : Result := jumpIf (condNc s.flags) i s
/-- `jnz` = `jne` (R253). -/
def execJnz (i : BitVec 7) (s : State) : Result := jumpIf (condNz s.flags) i s
/-- `jns` (R254). -/
def execJns (i : BitVec 7) (s : State) : Result := jumpIf (condNs s.flags) i s
/-- `jgu` (R255). -/
def execJgu (i : BitVec 7) (s : State) : Result := jumpIf (condGu s.flags) i s
/-- `jge` (R256). -/
def execJge (i : BitVec 7) (s : State) : Result := jumpIf (condGe s.flags) i s
/-- `jg` (R257). -/
def execJg (i : BitVec 7) (s : State) : Result := jumpIf (condG s.flags) i s

/-- `jal simm11` (R258). -/
def execJal (k : BitVec 11) (s : State) : Result :=
  .next ((s.setGpr .r5 s.npc).setPc (s.relTarget k))

/-- `add pc, RRR, simm7` with an even simm7: indirect jump (R260). -/
def execAddPc (b : Gpr) (i : BitVec 7) (s : State) : Result := .next (s.setPc (s.gpr b + sext i))

/-- `add pc, RRR, simm7` with an odd simm7: indirect jump and link; the immediate's bit 0 is ignored, and the target
uses the old r5 (R259; log 18). -/
def execAddPcLink (b : Gpr) (i : BitVec 7) (s : State) : Result :=
  .next ((s.setGpr .r5 s.npc).setPc (s.gpr b + dropBit0 (sext i)))

/-- `last imm6*2` (R261): raise sp and jump to r5. -/
def execLast (k : BitVec 6) (s : State) : Result :=
  .next ((s.setSp (s.sp + lastBytes k)).setPc (s.gpr .r5))

end Sys2Proof.Machine
end

