-- ==== Sys2Proof/Machine/LoadStore.lean ====
section
/-! DEFINITION. `lb`, `lw`, `sb`, `sw` (40_loads_stores.md). Operands and addresses are read from the state before the
instruction (R132; log 18); no flag changes (R130; log 14). -/

namespace Sys2Proof.Machine

/-- Load a zero-extended byte into a general register (R122, R126). -/
def loadByte (s : State) (d : Gpr) (sp : Space) (a : Word) : Result :=
  andThen (s.readByte sp a) fun (v, s1) => .next (s1.advance.setGpr d (v.setWidth 16))

/-- Load a word into r0..r5, sp or pc (R123, R127); a load of pc is a jump. -/
def loadWord (s : State) (d : Reg) (sp : Space) (a : Word) : Result :=
  andThen (s.readWord sp a) fun (v, s1) => .next (s1.advance.setReg d v)

/-- Store the low byte of a register (R124, R128). -/
def storeByte (s : State) (v : Word) (sp : Space) (a : Word) : Result :=
  andThen (s.writeByte sp a (v.extractLsb' 0 8)) fun s1 => .next s1.advance

/-- Store a word (R125, R129). -/
def storeWord (s : State) (v : Word) (sp : Space) (a : Word) : Result :=
  andThen (s.writeWord sp a v) fun s1 => .next s1.advance

/-- `lb rrr, (RRR + ximm7)` (R122). -/
def execLbImm (d : Gpr) (b : Reg) (i : BitVec 7) (s : State) : Result :=
  loadByte s d (spaceOf b) (s.eaImm b i)

/-- `lw rrr, (RRR + ximm7)` (R123). -/
def execLwImm (d : Reg) (b : Reg) (i : BitVec 7) (s : State) : Result :=
  loadWord s d (spaceOf b) (s.eaImm b i)

/-- `sb rrr, (RRR + ximm7)` (R124). -/
def execSbImm (r : Gpr) (b : Reg) (i : BitVec 7) (s : State) : Result :=
  storeByte s (s.gpr r) (spaceOf b) (s.eaImm b i)

/-- `sw rrr, (RRR + ximm7)` (R125). -/
def execSwImm (r : Reg) (b : Reg) (i : BitVec 7) (s : State) : Result :=
  storeWord s (s.x r) (spaceOf b) (s.eaImm b i)

/-- `lb rrr, (PPP + qqq)` (R126). -/
def execLbReg (d : Gpr) (p : Gpr) (q : Reg) (s : State) : Result :=
  loadByte s d (spaceOf q) (s.eaReg p q)

/-- `lw rrr, (PPP + qqq)` (R127). -/
def execLwReg (d : Reg) (p : Gpr) (q : Reg) (s : State) : Result :=
  loadWord s d (spaceOf q) (s.eaReg p q)

/-- `sb rrr, (PPP + qqq)` (R128; rrr = qqq is an ordinary store, log 16). -/
def execSbReg (r : Gpr) (p : Gpr) (q : Reg) (s : State) : Result :=
  storeByte s (s.gpr r) (spaceOf q) (s.eaReg p q)

/-- `sw rrr, (PPP + qqq)` (R129; rrr = qqq is an ordinary store, log 16). -/
def execSwReg (r : Reg) (p : Gpr) (q : Reg) (s : State) : Result :=
  storeWord s (s.x r) (spaceOf q) (s.eaReg p q)

end Sys2Proof.Machine
end

