-- ==== Sys2Proof/Machine/MemRmw.lean ====
section
/-! DEFINITION. `addm`, `subm` and the `incm` family (42_memory_rmw.md). -/

namespace Sys2Proof.Machine

/-- `addm`/`subm` (R160): read a data word, put it in r5, then put the result of the operation on the old dst and the
word in dst. The address uses the old registers (log 18). -/
def memAlu (f : Word → Word → Word × Flags) (d : Gpr) (b : Reg) (i : BitVec 7) (s : State) : Result :=
  andThen (s.readWord .data (s.eaImm b i)) fun (m, s1) =>
    let (res, fl) := f (s.gpr d) m
    .next (((s1.advance.setGpr .r5 m).setGpr d res).setFlags fl)

/-- `addm dst, (src + ximm7)` (R150). -/
def execAddm (d : Gpr) (b : Reg) (i : BitVec 7) (s : State) : Result :=
  memAlu (fun a m => addFlags a m false) d b i s

/-- `subm dst, (src + ximm7)` (R151). -/
def execSubm (d : Gpr) (b : Reg) (i : BitVec 7) (s : State) : Result :=
  memAlu (fun a m => subFlags a m false) d b i s

/-- `IncM(r, EA, delta)` (R161): the old word to the register, the changed word back to memory; Z and S from the
changed word, C and O fresh free values (U1; log 5). -/
def incMem (r : Gpr) (a : Word) (delta : Word) (s : State) : Result :=
  andThen (s.readWord .data a) fun (m, s1) =>
    andThen (s1.writeWord .data a (m + delta)) fun s2 =>
      .next (((s2.advance.setGpr r m).setFlags
        { c := s.freshFlag 0, z := m + delta == 0, s := (m + delta).getLsbD 15, o := s.freshFlag 1 }).drawn 2)

/-- `incm (rrr)` (R152; log 15). -/
def execIncmInd (r : Gpr) (s : State) : Result := incMem r (s.gpr r) 1 s

/-- `decm (rrr)` (R153; log 15). -/
def execDecmInd (r : Gpr) (s : State) : Result := incMem r (s.gpr r) (-1) s

/-- `dincm (rrr)` (R154). -/
def execDincmInd (r : Gpr) (s : State) : Result := incMem r (s.gpr r) 2 s

/-- `ddecm (rrr)` (R155). -/
def execDdecmInd (r : Gpr) (s : State) : Result := incMem r (s.gpr r) (-2) s

/-- `incm rrr, (sp + imm7)` (R156). -/
def execIncmSp (r : Gpr) (i : BitVec 7) (s : State) : Result := incMem r (s.eaSp i) 1 s

/-- `decm rrr, (sp + imm7)` (R157). -/
def execDecmSp (r : Gpr) (i : BitVec 7) (s : State) : Result := incMem r (s.eaSp i) (-1) s

/-- `dincm rrr, (sp + imm7)` (R158). -/
def execDincmSp (r : Gpr) (i : BitVec 7) (s : State) : Result := incMem r (s.eaSp i) 2 s

/-- `ddecm rrr, (sp + imm7)` (R159). -/
def execDdecmSp (r : Gpr) (i : BitVec 7) (s : State) : Result := incMem r (s.eaSp i) (-2) s

end Sys2Proof.Machine
end

