-- ==== Sys2Proof/Machine/Moves.lean ====
section
/-! DEFINITION. `li`, `mov`, `m2f`, `mf2`, `stc` (43_moves_flags.md). -/

namespace Sys2Proof.Machine

/-- `li rrr, simm9` (R170). -/
def execLi (d : Gpr) (n : BitVec 9) (s : State) : Result := .next (s.advance.setGpr d (sext n))

/-- `mov rrr, qqq` (R171). -/
def execMov (d : Gpr) (q : Reg) (s : State) : Result := .next (s.advance.setGpr d (s.src q))

/-- `m2f`: the flags register to r2 (R173). -/
def execM2f (s : State) : Result := .next (s.advance.setGpr .r2 s.flagsWord)

/-- The arithmetic flags in bits 3:0 of a flags-register word (R28). -/
def flagsOfWord (v : Word) : Flags :=
  { c := v.getLsbD 0, z := v.getLsbD 1, s := v.getLsbD 2, o := v.getLsbD 3 }

/-- `mf2`: r2 to the flags register (R174); a 0 in bits 9:4 clears a request, a 1 keeps it. -/
def execMf2 (s : State) : Result :=
  let v := s.gpr .r2
  .next (((s.advance.setMask (v.extractLsb' 10 6)).setReq (s.req &&& v.extractLsb' 4 6)).setFlags (flagsOfWord v))

/-- `stc`: C set, Z, S and O fresh free values (R175, U1; log 5). -/
def execStc (s : State) : Result :=
  .next ((s.advance.setFlags
    { c := true, z := s.freshFlag 0, s := s.freshFlag 1, o := s.freshFlag 2 }).drawn 3)

end Sys2Proof.Machine
end

