-- ==== Sys2Proof/Machine/MulDiv.lean ====
section
/-! DEFINITION. `lurpc`, `sac` and the multiplication and division helpers (46_lurpc_muldiv.md). The helpers are the
sequences of ordinary operations the source gives (R237). -/

namespace Sys2Proof.Machine

/-- `lurpc rrr, imm9` (R230). -/
def execLurpc (d : Gpr) (n : BitVec 9) (s : State) : Result := plainResult s d (s.npc + upperImm n)

/-- `sac rrr, PPP, imm4` (R231): the shifted value is truncated to 16 bits before the addition (log 17). -/
def execSac (d : Gpr) (p : Gpr) (k : BitVec 4) (s : State) : Result :=
  aluResult s d (addFlags (s.gpr d) (s.gpr p <<< k.toNat) false)

/-- The operand `Carry ? r4 : 0` of the conditional additions (R233 to R235). -/
def carryR4 (s : State) (c : Bool) : Word := if c then s.gpr .r4 else 0

/-- `add22adc33` (R232): `add r2, r2` then `adc r3, r3`. -/
def execAdd22adc33 (s : State) : Result :=
  let (v2, f) := addFlags (s.gpr .r2) (s.gpr .r2) false
  let (v3, g) := addFlags (s.gpr .r3) (s.gpr .r3) f.c
  .next (((s.advance.setGpr .r2 v2).setGpr .r3 v3).setFlags g)

/-- `cadd24` (R233): `add r2, (Carry ? r4 : 0)`. -/
def execCadd24 (s : State) : Result :=
  aluResult s .r2 (addFlags (s.gpr .r2) (carryR4 s s.flags.c) false)

/-- `cadd24adc3z` (R234): `add r2, (Carry ? r4 : 0)` then `adcz r3`. -/
def execCadd24adc3z (s : State) : Result :=
  let (v2, f) := addFlags (s.gpr .r2) (carryR4 s s.flags.c) false
  let (v3, g) := addFlags (s.gpr .r3) 0 f.c
  .next (((s.advance.setGpr .r2 v2).setGpr .r3 v3).setFlags g)

/-- `csub34` (R235): `sub r3, r4` then `add r3, (Carry ? r4 : 0)`. -/
def execCsub34 (s : State) : Result :=
  let (v, f) := subFlags (s.gpr .r3) (s.gpr .r4) false
  aluResult s .r3 (addFlags v (carryR4 s f.c) false)

end Sys2Proof.Machine
end

