-- ==== Sys2Proof/Syntax.lean ====
section
/-! DEFINITION. The instructions of the full ISA: one constructor per row of `spec/opcode_table.json`, the rows
that code their registers by slot (R115: `addm`, `subm`, `mrs`, `push r`, `pop`) taken together as one constructor
with register operands. Immediates are the bit fields of the row (R81, R83); ignored bits (R88) are not part of an
instruction. Reserved rows (R112) keep every bit they do not fix. -/

namespace Sys2Proof

/-- An instruction of the full ISA. -/
inductive Instr where
  -- major 000 (R92)
  /-- `lb rrr, (RRR + ximm7)` (R122). -/
  | lbImm (d : Gpr) (b : Reg) (imm7 : BitVec 7)
  /-- `and RRR, imm7` (R188). -/
  | andImm (r : Gpr) (imm7 : BitVec 7)
  /-- `or RRR, imm7` (R189). -/
  | orImm (r : Gpr) (imm7 : BitVec 7)
  /-- `addm dst, (src + ximm7)`, slots 0 to 29 (R150, R87). -/
  | addm (d : Gpr) (b : Reg) (imm7 : BitVec 7)
  -- major 001 (R93)
  /-- `lw rrr, (RRR + ximm7)` (R123). -/
  | lwImm (d : Reg) (b : Reg) (imm7 : BitVec 7)
  /-- `incm (rrr)` (R152). -/
  | incmInd (r : Gpr)
  /-- `decm (rrr)` (R153). -/
  | decmInd (r : Gpr)
  /-- reserved: `incm/decm (rrr), simm7` with an odd simm7 other than +1 and -1 (R112). -/
  | reservedIncm (r : Gpr) (imm7 : BitVec 7)
  /-- `adcz rrr` (R187). -/
  | adcz (r : Gpr)
  -- major 010 (R94)
  /-- `sb rrr, (RRR + ximm7)` (R124). -/
  | sbImm (r : Gpr) (b : Reg) (imm7 : BitVec 7)
  /-- `xor RRR, imm7` (R190). -/
  | xorImm (r : Gpr) (imm7 : BitVec 7)
  /-- `cmp RRR, simm7` (R191). -/
  | cmpImm (r : Gpr) (imm7 : BitVec 7)
  /-- `push r` (R141). -/
  | pushReg (r : Gpr)
  /-- `subm dst, (src + ximm7)`, slot groups 0x to 4x (R151, R89). -/
  | subm (d : Gpr) (b : Reg) (imm7 : BitVec 7)
  -- major 011 (R95)
  /-- `sw rrr, (RRR + ximm7)` (R125). -/
  | swImm (r : Reg) (b : Reg) (imm7 : BitVec 7)
  /-- `dincm (rrr)` (R154). -/
  | dincmInd (r : Gpr)
  /-- `ddecm (rrr)` (R155). -/
  | ddecmInd (r : Gpr)
  /-- reserved: the slot of `sw sp, (sp + imm7)` (R112). -/
  | reservedSwSp (imm7 : BitVec 7)
  -- major 100 (R96)
  /-- `add rrr, RRR, simm7` with rrr in r0..r5 (R192). -/
  | addImm (d : Gpr) (b : Reg) (imm7 : BitVec 7)
  /-- `add sp, RRR, simm7` (R193). -/
  | addSp (b : Reg) (imm7 : BitVec 7)
  /-- `swi simm6` (R270). -/
  | swi (simm6 : BitVec 6)
  /-- `push simm7` (R140). -/
  | pushImm (imm7 : BitVec 7)
  /-- `add pc, RRR, simm7` with an even simm7: indirect jump (R260). -/
  | addPc (b : Gpr) (imm7 : BitVec 7)
  /-- `add pc, RRR, simm7` with an odd simm7: indirect jump and link (R259). -/
  | addPcLink (b : Gpr) (imm7 : BitVec 7)
  -- major 101 (R97)
  /-- `li rrr, simm9` (R170). -/
  | li (d : Gpr) (imm9 : BitVec 9)
  /-- `addu rrr, imm9` with rrr in r0..r5 or sp (R202). -/
  | addu (d : Reg) (imm9 : BitVec 9)
  /-- `j simm8` (R241). -/
  | j (simm8 : BitVec 8)
  /-- reserved: the "?" slot, li-space with rrr = sp and an even imm9 (R112). -/
  | reservedLiSp (x : BitVec 8)
  -- major 110 (R98)
  /-- `incm rrr, (sp + imm7)` (R156). -/
  | incmSp (r : Gpr) (imm7 : BitVec 7)
  /-- `decm rrr, (sp + imm7)` (R157). -/
  | decmSp (r : Gpr) (imm7 : BitVec 7)
  /-- `dincm rrr, (sp + imm7)` (R158). -/
  | dincmSp (r : Gpr) (imm7 : BitVec 7)
  /-- `ddecm rrr, (sp + imm7)` (R159). -/
  | ddecmSp (r : Gpr) (imm7 : BitVec 7)
  /-- `ls5r rrr`, rrr in r0..r4 (R143). -/
  | ls5r (r : Gpr)
  /-- `last imm6*2` (R261). -/
  | last (imm6 : BitVec 6)
  /-- `ss5r rrr`, rrr in r0..r4 (R144). -/
  | ss5r (r : Gpr)
  /-- reserved: the `ss5r` slot with rrr = 5 (R112). -/
  | reservedSs5r (x : BitVec 6)
  /-- reserved: `dincm/ddecm rrr, (sp + odd imm7)` (R112). -/
  | reservedDincmSp (r : Gpr) (x : BitVec 7)
  /-- `lurpc rrr, imm9` (R230). -/
  | lurpc (d : Gpr) (imm9 : BitVec 9)
  /-- `jal simm11` (R258). -/
  | jal (simm11 : BitVec 11)
  -- major 111, conditional jumps (R99, R243)
  /-- `jc simm7` = `jlu` (R244). -/
  | jc (imm7 : BitVec 7)
  /-- `jz simm7` = `je` (R245). -/
  | jz (imm7 : BitVec 7)
  /-- `js simm7` (R246). -/
  | js (imm7 : BitVec 7)
  /-- `jleu simm7` (R247). -/
  | jleu (imm7 : BitVec 7)
  /-- `jl simm7` (R248). -/
  | jl (imm7 : BitVec 7)
  /-- `jle simm7` (R249). -/
  | jle (imm7 : BitVec 7)
  /-- `jo simm7` (R250). -/
  | jo (imm7 : BitVec 7)
  /-- `jno simm7` (R251). -/
  | jno (imm7 : BitVec 7)
  /-- `jnc simm7` = `jgeu` (R252). -/
  | jnc (imm7 : BitVec 7)
  /-- `jnz simm7` = `jne` (R253). -/
  | jnz (imm7 : BitVec 7)
  /-- `jns simm7` (R254). -/
  | jns (imm7 : BitVec 7)
  /-- `jgu simm7` (R255). -/
  | jgu (imm7 : BitVec 7)
  /-- `jge simm7` (R256). -/
  | jge (imm7 : BitVec 7)
  /-- `jg simm7` (R257). -/
  | jg (imm7 : BitVec 7)
  -- major 111, the rest (R99)
  /-- `mrs r, s`: r receives, s holds the selector number (R275, R90). -/
  | mrs (d : Gpr) (sel : Gpr)
  /-- `stc` (R175). -/
  | stc
  /-- reserved: mrs number 31 (R112). -/
  | reservedMrs (x : BitVec 3)
  /-- `zxt PPP` (R183). -/
  | zxt (r : Gpr)
  /-- `sxt PPP` (R184). -/
  | sxt (r : Gpr)
  /-- `cpl PPP` (R185). -/
  | cpl (r : Gpr)
  /-- `neg PPP` (R186). -/
  | neg (r : Gpr)
  /-- `pop r` (R142). -/
  | pop (r : Gpr)
  /-- `mf2` (R174). -/
  | mf2
  /-- `m2f` (R173). -/
  | m2f
  /-- `sac rrr, PPP, imm4` (R231). -/
  | sac (d : Gpr) (p : Gpr) (imm4 : BitVec 4)
  /-- `sr PPP, imm4` (R216). -/
  | srImm (r : Gpr) (imm4 : BitVec 4)
  /-- `sl PPP, imm4` (R217). -/
  | slImm (r : Gpr) (imm4 : BitVec 4)
  /-- `asr rrr, imm4` (R218). -/
  | asrImm (r : Gpr) (imm4 : BitVec 4)
  /-- `rl rrr, imm4` (R219). -/
  | rlImm (r : Gpr) (imm4 : BitVec 4)
  /-- reserved: `sr PPP, 0` (R220). -/
  | reservedSr (r : Gpr)
  /-- reserved: `sl PPP, 0` and `sl PPP, 1` (R220). -/
  | reservedSl (r : Gpr) (k : BitVec 1)
  /-- reserved: `asr rrr, 0` (R220). -/
  | reservedAsr (r : Gpr)
  /-- reserved: `rl rrr, 0` (R220). -/
  | reservedRl (r : Gpr)
  /-- `di` (R272). -/
  | di
  /-- `ei` (R273). -/
  | ei
  /-- `reti` (R271). -/
  | reti
  /-- reserved: "hlt? (reserved)" (R276). -/
  | reservedHlt (x : BitVec 3)
  /-- `add22adc33` (R232). -/
  | add22adc33
  /-- `cadd24` (R233). -/
  | cadd24
  /-- `cadd24adc3z` (R234). -/
  | cadd24adc3z
  /-- `csub34` (R235). -/
  | csub34
  /-- `lb rrr, (PPP + qqq)` (R126). -/
  | lbReg (d : Gpr) (p : Gpr) (q : Reg)
  /-- `lw rrr, (PPP + qqq)` (R127). -/
  | lwReg (d : Reg) (p : Gpr) (q : Reg)
  /-- `sb rrr, (PPP + qqq)` (R128). -/
  | sbReg (r : Gpr) (p : Gpr) (q : Reg)
  /-- `sw rrr, (PPP + qqq)` (R129). -/
  | swReg (r : Reg) (p : Gpr) (q : Reg)
  /-- `sr rrr, qqq` (R211). -/
  | srReg (r : Gpr) (q : Reg)
  /-- `sl rrr, qqq` (R212). -/
  | slReg (r : Gpr) (q : Reg)
  /-- `rr rrr, qqq` (R215). -/
  | rrReg (r : Gpr) (q : Reg)
  /-- `rl rrr, qqq` (R214). -/
  | rlReg (r : Gpr) (q : Reg)
  /-- `asr rrr, qqq` (R213). -/
  | asrReg (r : Gpr) (q : Reg)
  /-- `xor rrr, qqq` (R201). -/
  | xorReg (r : Gpr) (q : Reg)
  /-- `and rrr, qqq` (R199). -/
  | andReg (r : Gpr) (q : Reg)
  /-- `or rrr, qqq` (R200). -/
  | orReg (r : Gpr) (q : Reg)
  /-- `adc PPP, qqq` (R195). -/
  | adcReg (r : Gpr) (q : Reg)
  /-- `sbb PPP, qqq` (R197). -/
  | sbbReg (r : Gpr) (q : Reg)
  /-- `add PPP, qqq` (R194). -/
  | addReg (r : Gpr) (q : Reg)
  /-- `sub PPP, qqq` (R196). -/
  | subReg (r : Gpr) (q : Reg)
  /-- `cmp PPP, qqq` (R198). -/
  | cmpReg (r : Gpr) (q : Reg)
  /-- `mov rrr, qqq` (R171). -/
  | mov (d : Gpr) (q : Reg)
  /-- `msr s, r`: s holds the selector number, r the value (R274). -/
  | msr (sel : Gpr) (q : Reg)
  /-- reserved: register-register slots with rrr and PPP both in (sp, pc) (R112). -/
  | reservedRegReg (r : BitVec 1) (w : BitVec 1) (p : BitVec 1) (l : BitVec 1) (q : BitVec 3)
deriving DecidableEq, Repr

end Sys2Proof
end

