-- ==== Sys2Proof/WellFormed.lean ====
section
/-! DEFINITION. Which terms of `Instr` are instructions: the operand restrictions of the opcode table's
`constraints` column (R92 to R99) that the operand types do not already express. -/

namespace Sys2Proof

/-- The immediate's bit 0 is 0. -/
def evenImm (i : BitVec 7) : Bool := !i.getLsbD 0

/-- The operands of `addm`/`subm` (R160): dst is not r5, src is not pc, src differs from dst. -/
def memAluOperands (d : Gpr) (b : Reg) : Bool :=
  d != .r5 && b != .pc && b != .gpr d

/-- A word access based on sp or pc by a general register needs an even immediate: the odd words are other
instructions (R93, R95). -/
def wordImmOk (r : Reg) (b : Reg) (i : BitVec 7) : Bool :=
  match r, b with
  | .gpr _, .sp => evenImm i
  | .gpr _, .pc => evenImm i
  | _, _ => true

/-- The operand restrictions of each row (the table's constraints). -/
def Instr.wellFormed : Instr → Bool
  | .lbImm _ _ _ => true
  | .andImm _ _ => true
  | .orImm _ _ => true
  | .addm d b i => memAluOperands d b && (b != .sp || evenImm i || (d != .r0 && d != .r1))
  | .lwImm d b i => wordImmOk d b i
  | .incmInd _ => true
  | .decmInd _ => true
  | .reservedIncm _ i => !evenImm i && i != 1 && i != 127
  | .adcz _ => true
  | .sbImm r b _ => b != .gpr r
  | .xorImm _ _ => true
  | .cmpImm _ _ => true
  | .pushReg _ => true
  | .subm d b i => memAluOperands d b && (b != .sp || evenImm i || d == .r4)
  | .swImm r b i => r != .pc && b != r && wordImmOk r b i
  | .dincmInd _ => true
  | .ddecmInd _ => true
  | .reservedSwSp _ => true
  | .addImm _ _ _ => true
  | .addSp b i => b != .pc && (b != .sp || evenImm i)
  | .swi _ => true
  | .pushImm _ => true
  | .addPc _ i => evenImm i
  | .addPcLink _ i => !evenImm i
  | .li _ _ => true
  | .addu d _ => d != .pc
  | .j _ => true
  | .reservedLiSp _ => true
  | .incmSp _ i => evenImm i
  | .decmSp _ i => evenImm i
  | .dincmSp _ i => evenImm i
  | .ddecmSp _ i => evenImm i
  | .ls5r r => r != .r5
  | .last _ => true
  | .ss5r r => r != .r5
  | .reservedSs5r _ => true
  | .reservedDincmSp _ _ => true
  | .lurpc _ _ => true
  | .jal _ => true
  | .jc _ => true
  | .jz _ => true
  | .js _ => true
  | .jleu _ => true
  | .jl _ => true
  | .jle _ => true
  | .jo _ => true
  | .jno _ => true
  | .jnc _ => true
  | .jnz _ => true
  | .jns _ => true
  | .jgu _ => true
  | .jge _ => true
  | .jg _ => true
  | .mrs d sel => d != sel
  | .stc => true
  | .reservedMrs _ => true
  | .zxt _ => true
  | .sxt _ => true
  | .cpl _ => true
  | .neg _ => true
  | .pop _ => true
  | .mf2 => true
  | .m2f => true
  | .sac _ _ _ => true
  | .srImm _ k => k != 0
  | .slImm _ k => k != 0 && k != 1
  | .asrImm _ k => k != 0
  | .rlImm _ k => k != 0
  | .reservedSr _ => true
  | .reservedSl _ _ => true
  | .reservedAsr _ => true
  | .reservedRl _ => true
  | .di => true
  | .ei => true
  | .reti => true
  | .reservedHlt _ => true
  | .add22adc33 => true
  | .cadd24 => true
  | .cadd24adc3z => true
  | .csub34 => true
  | .lbReg _ _ _ => true
  | .lwReg _ _ _ => true
  | .sbReg r p _ => p != r
  | .swReg r p _ => r != .pc && r != .gpr p
  | .srReg _ _ => true
  | .slReg _ _ => true
  | .rrReg _ _ => true
  | .rlReg _ _ => true
  | .asrReg _ _ => true
  | .xorReg _ _ => true
  | .andReg _ _ => true
  | .orReg _ _ => true
  | .adcReg _ _ => true
  | .sbbReg _ _ => true
  | .addReg _ _ => true
  | .subReg _ _ => true
  | .cmpReg _ _ => true
  | .mov _ _ => true
  | .msr _ _ => true
  | .reservedRegReg _ _ _ _ _ => true

/-- `i` is an instruction of the full ISA. -/
abbrev Instr.WellFormed (i : Instr) : Prop := i.wellFormed = true

end Sys2Proof
end

