-- ==== Sys2Proof/Decode.lean ====
section
/-! DEFINITION. Decoding and encoding of the full ISA (30_encoding.md). Every 16-bit word decodes (R100): the words
the table reserves decode to the `reserved…` constructors, which refuse when executed. The byte decoder refuses, by
name, only when fewer than two bytes are given. -/

namespace Sys2Proof

/-! ### Register numbers (R81) -/

/-- The number of a general register. -/
def Gpr.num : Gpr → Nat
  | .r0 => 0 | .r1 => 1 | .r2 => 2 | .r3 => 3 | .r4 => 4 | .r5 => 5

/-- The general register of a number 0..5 (larger numbers do not occur). -/
def Gpr.ofNum : Nat → Gpr
  | 0 => .r0 | 1 => .r1 | 2 => .r2 | 3 => .r3 | 4 => .r4 | _ => .r5

/-- The number of a register: sp is 6, pc is 7. -/
def Reg.num : Reg → Nat
  | .gpr g => g.num | .sp => 6 | .pc => 7

/-- The register of a number 0..7. -/
def Reg.ofNum : Nat → Reg
  | 0 => .gpr .r0 | 1 => .gpr .r1 | 2 => .gpr .r2 | 3 => .gpr .r3 | 4 => .gpr .r4 | 5 => .gpr .r5
  | 6 => .sp | _ => .pc

/-- The 3-bit field that holds a general register. -/
def Gpr.bits (g : Gpr) : BitVec 3 := BitVec.ofNat 3 g.num

/-- The 3-bit field that holds a register. -/
def Reg.bits (r : Reg) : BitVec 3 := BitVec.ofNat 3 r.num

/-- The register a 3-bit field holds. -/
def Reg.ofBits (f : BitVec 3) : Reg := Reg.ofNum f.toNat

/-! ### Fields of an instruction word (R81) -/

/-- Bits 15:13, the major opcode. -/
def fMajor (w : Word) : BitVec 3 := w.extractLsb' 13 3
/-- Bits 12:10. -/
def fRrr (w : Word) : Reg := Reg.ofBits (w.extractLsb' 10 3)
/-- Bits 9:7 as a register. -/
def fRRR (w : Word) : Reg := Reg.ofBits (w.extractLsb' 7 3)
/-- Bits 9:7 as an opcode. -/
def fSub (w : Word) : BitVec 3 := w.extractLsb' 7 3
/-- Bits 6:4 as a register. -/
def fPPP (w : Word) : Reg := Reg.ofBits (w.extractLsb' 4 3)
/-- Bits 2:0 as a register. -/
def fQqq (w : Word) : Reg := Reg.ofBits (w.extractLsb' 0 3)
/-- Bits 6:0. -/
def fImm7 (w : Word) : BitVec 7 := w.extractLsb' 0 7
/-- Bits 6:1. -/
def fImm6 (w : Word) : BitVec 6 := w.extractLsb' 1 6
/-- Bits 8:0. -/
def fImm9 (w : Word) : BitVec 9 := w.extractLsb' 0 9
/-- Bits 8:1. -/
def fImm8 (w : Word) : BitVec 8 := w.extractLsb' 1 8
/-- Bits 10:0. -/
def fImm11 (w : Word) : BitVec 11 := w.extractLsb' 0 11
/-- Bits 3:0. -/
def fImm4 (w : Word) : BitVec 4 := w.extractLsb' 0 4
/-- Bits 2:0. -/
def fIII (w : Word) : BitVec 3 := w.extractLsb' 0 3
/-- Bit 0. -/
def fOdd (w : Word) : Bool := w.getLsbD 0
/-- Bit 3, `Q`, or `L` of the register-register forms. -/
def fQ (w : Word) : Bool := w.getLsbD 3
/-- Bit 7, `w` of the register-register forms. -/
def fW (w : Word) : Bool := w.getLsbD 7

/-! ### Slot numbering -/

/-- The source register of an `addm`/`subm` slot: numbers from dst on skip dst (R87, R89). -/
def slotSrc (dst n : Nat) : Reg := Reg.ofNum (n + if n ≥ dst then 1 else 0)

/-- The slot position of a source register: `src - (src > dst)` (R87, R89). -/
def slotOf (d : Gpr) (b : Reg) : Nat := b.num - if b.num > d.num then 1 else 0

/-- `addm` slot n (R87). -/
def addmOfSlot (n : Nat) (i : BitVec 7) : Instr :=
  .addm (Gpr.ofNum (n / 6)) (slotSrc (n / 6) (n % 6)) i

/-- `mrs`-space number n: `mrs` for n in 0..29, `stc` for 30, reserved for 31 (R90). -/
def mrsOfNumber (n : Nat) (x : BitVec 3) : Instr :=
  if n < 30 then .mrs (Gpr.ofNum (n / 5)) (Gpr.ofNum (n % 5 + if n % 5 ≥ n / 5 then 1 else 0))
  else if n = 30 then .stc
  else .reservedMrs x

/-- The number of the pair (r, s) of `mrs r, s` (R90). -/
def mrsNumber (d s : Gpr) : Nat := d.num * 5 + s.num - if s.num > d.num then 1 else 0

/-! ### The decoder, one definition per major opcode -/

/-- Major 000 (R92). -/
def decode0 (w : Word) : Instr :=
  let i := fImm7 w
  match fRrr w, fRRR w with
  | .gpr d, b => .lbImm d b i
  | .sp, .gpr r => .andImm r i
  | .pc, .gpr r => .orImm r i
  | .sp, .sp => .addm .r0 (.gpr .r1) i
  | .sp, .pc => .addm .r0 (.gpr .r2) i
  | .pc, .sp => .addm .r0 (.gpr .r3) i
  | .pc, .pc => .addm .r0 (.gpr .r4) i

/-- Major 001 (R93). -/
def decode1 (w : Word) : Instr :=
  let i := fImm7 w
  match fRrr w, fRRR w with
  | .gpr d, .sp =>
    if fOdd w then
      if i = 1 then .incmInd d else if i = 127 then .decmInd d else .reservedIncm d i
    else .lwImm (.gpr d) .sp i
  | .gpr d, .pc => if fOdd w then .adcz d else .lwImm (.gpr d) .pc i
  | d, b => .lwImm d b i

/-- Major 010 (R94). -/
def decode2 (w : Word) : Instr :=
  let i := fImm7 w
  match fRrr w, fRRR w with
  | .gpr r, b =>
    if b = .gpr r then
      if r = .r5 ∧ fOdd w then .pushReg .r2 else .subm .r0 (slotSrc 0 r.num) i
    else .sbImm r b i
  | .sp, .gpr r => .xorImm r i
  | .pc, .gpr r => .cmpImm r i
  | .sp, .sp => .addm .r0 (.gpr .r5) i
  | .sp, .pc => if fOdd w then .pushReg .r0 else .addm .r0 .sp i
  | .pc, .sp => .addm .r1 (.gpr .r0) i
  | .pc, .pc => .addm .r1 (.gpr .r2) i

/-- Major 011 (R95). -/
def decode3 (w : Word) : Instr :=
  let i := fImm7 w
  match fRrr w, fRRR w with
  | .gpr r, .gpr b =>
    if b = r then
      if r = .r5 ∧ fOdd w then .pushReg .r3 else .subm .r1 (slotSrc 1 r.num) i
    else .swImm (.gpr r) (.gpr b) i
  | .gpr r, .sp => if fOdd w then .dincmInd r else .swImm (.gpr r) .sp i
  | .gpr r, .pc => if fOdd w then .ddecmInd r else .swImm (.gpr r) .pc i
  | .sp, .gpr b => .swImm .sp (.gpr b) i
  | .sp, .sp => .reservedSwSp i
  | .sp, .pc => .swImm .sp .pc i
  | .pc, .gpr n => if n = .r5 ∧ fOdd w then .pushReg .r4 else .subm .r2 (slotSrc 2 n.num) i
  | .pc, .sp => .addm .r2 (.gpr .r0) i
  | .pc, .pc => .addm .r2 (.gpr .r1) i

/-- Major 100 (R96). -/
def decode4 (w : Word) : Instr :=
  let i := fImm7 w
  match fRrr w, fRRR w with
  | .gpr d, b => .addImm d b i
  | .sp, .gpr b => .addSp (.gpr b) i
  | .sp, .sp => if fOdd w then .swi (fImm6 w) else .addSp .sp i
  | .sp, .pc => .pushImm i
  | .pc, .gpr b => if fOdd w then .addPcLink b i else .addPc b i
  | .pc, .sp => .addm .r1 (.gpr .r3) i
  | .pc, .pc => .addm .r1 (.gpr .r4) i

/-- Major 101 (R97). -/
def decode5 (w : Word) : Instr :=
  let i := fImm7 w
  match fRrr w with
  | .gpr d => if w.getLsbD 9 then .addu (.gpr d) (fImm9 w) else .li d (fImm9 w)
  | .sp =>
    if w.getLsbD 9 then .addu .sp (fImm9 w)
    else if fOdd w then .j (fImm8 w) else .reservedLiSp (fImm8 w)
  | .pc =>
    match fRRR w with
    | .gpr n => if n = .r5 ∧ fOdd w then .pushReg .r5 else .subm .r3 (slotSrc 3 n.num) i
    | .sp => .addm .r1 (.gpr .r5) i
    | .pc => if fOdd w then .pushReg .r1 else .addm .r1 .sp i

/-- Major 110 (R98). -/
def decode6 (w : Word) : Instr :=
  let i := fImm7 w
  match fRrr w with
  | .gpr d =>
    match (fSub w).toNat, fOdd w with
    | 0, false => .incmSp d i
    | 0, true => if d = .r5 then .last (fImm6 w) else .ls5r d
    | 1, false => .decmSp d i
    | 1, true => if d = .r5 then .reservedSs5r (fImm6 w) else .ss5r d
    | 2, false => .dincmSp d i
    | 3, false => .ddecmSp d i
    | 2, true => .reservedDincmSp d (w.extractLsb' 1 7)
    | 3, true => .reservedDincmSp d (w.extractLsb' 1 7)
    | _, _ => .lurpc d (fImm9 w)
  | _ => .jal (fImm11 w)

/-- The conditional jump with condition number `8 * n + ccc` (R243). -/
def decodeJump (cond : Nat) (i : BitVec 7) : Instr :=
  match cond with
  | 0 => .jc i
  | 1 => .jz i
  | 2 => .js i
  | 3 => .jleu i
  | 4 => .jl i
  | 5 => .jle i
  | 6 => .jo i
  | 7 => .jno i
  | 8 => .jnc i
  | 9 => .jnz i
  | 10 => .jns i
  | 11 => .jgu i
  | 12 => .jge i
  | _ => .jg i

/-- Major 111, bits 9:7 = 100 (R99). -/
def decodeUnary (w : Word) : Instr :=
  match fRrr w, fPPP w, fQ w with
  | .gpr n, _, _ => .subm .r4 (slotSrc 4 n.num) (fImm7 w)
  | .sp, .gpr p, false => .zxt p
  | .sp, .gpr p, true => .sxt p
  | .sp, .sp, false => .pop .r0
  | .sp, .sp, true => .pop .r1
  | .sp, .pc, false => .pop .r2
  | .sp, .pc, true => .pop .r3
  | .pc, .gpr p, false => .cpl p
  | .pc, .gpr p, true => .neg p
  | .pc, .sp, false => .pop .r4
  | .pc, .sp, true => .pop .r5
  | .pc, .pc, false => .mf2
  | .pc, .pc, true => .m2f

/-- Major 111, bits 9:7 = 101 (R99). -/
def decodeShiftImm (w : Word) : Instr :=
  let k := fImm4 w
  match fRrr w, fPPP w with
  | .gpr d, .gpr p => .sac d p k
  | .sp, .gpr p => if k = 0 then .reservedSr p else .srImm p k
  | .pc, .gpr p => if k = 0 ∨ k = 1 then .reservedSl p (k.extractLsb' 0 1) else .slImm p k
  | .gpr d, .sp => if k = 0 then .reservedAsr d else .asrImm d k
  | .gpr d, .pc => if k = 0 then .reservedRl d else .rlImm d k
  | .sp, .sp => if fQ w then .ei else .di
  | .sp, .pc => if fQ w then .reservedHlt (fIII w) else .reti
  | .pc, .sp => if fQ w then .cadd24 else .add22adc33
  | .pc, .pc => if fQ w then .csub34 else .cadd24adc3z

/-- Major 111, bits 9:8 = 11 (R99). -/
def decodeRegReg (w : Word) : Instr :=
  let q := fQqq w
  match fRrr w, fPPP w, fW w, fQ w with
  | .gpr d, .gpr p, false, false => .lbReg d p q
  | .gpr d, .gpr p, true, false => .lwReg (.gpr d) p q
  | .gpr d, .gpr p, false, true => if p = d then .mov d q else .sbReg d p q
  | .gpr d, .gpr p, true, true => if p = d then .msr d q else .swReg (.gpr d) p q
  | .gpr d, .sp, false, false => .srReg d q
  | .gpr d, .sp, false, true => .slReg d q
  | .gpr d, .sp, true, false => .rrReg d q
  | .gpr d, .sp, true, true => .rlReg d q
  | .gpr d, .pc, false, false => .asrReg d q
  | .gpr d, .pc, false, true => .xorReg d q
  | .gpr d, .pc, true, false => .andReg d q
  | .gpr d, .pc, true, true => .orReg d q
  | .sp, .gpr p, false, false => .adcReg p q
  | .sp, .gpr p, false, true => .sbbReg p q
  | .sp, .gpr p, true, false => .lwReg .sp p q
  | .sp, .gpr p, true, true => .swReg .sp p q
  | .pc, .gpr p, false, false => .addReg p q
  | .pc, .gpr p, false, true => .subReg p q
  | .pc, .gpr p, true, false => .lwReg .pc p q
  | .pc, .gpr p, true, true => .cmpReg p q
  | _, _, _, _ =>
    .reservedRegReg (w.extractLsb' 10 1) (w.extractLsb' 7 1) (w.extractLsb' 4 1) (w.extractLsb' 3 1) (fIII w)

/-- Major 111 (R99). -/
def decode7 (w : Word) : Instr :=
  match (fSub w).toNat with
  | 0 => decodeJump (fRrr w).num (fImm7 w)
  | 1 =>
    match fRrr w with
    | .gpr c => decodeJump (8 + c.num) (fImm7 w)
    | _ => mrsOfNumber (16 * (w.extractLsb' 10 1).toNat + (w.extractLsb' 3 4).toNat) (fIII w)
  | 2 => addmOfSlot (14 + 2 * (fRrr w).num) (fImm7 w)
  | 3 => addmOfSlot (15 + 2 * (fRrr w).num) (fImm7 w)
  | 4 => decodeUnary w
  | 5 => decodeShiftImm w
  | _ => decodeRegReg w

/-- The instruction of a 16-bit word of the full ISA (R100). -/
def decodeWord (w : Word) : Instr :=
  match (fMajor w).toNat with
  | 0 => decode0 w
  | 1 => decode1 w
  | 2 => decode2 w
  | 3 => decode3 w
  | 4 => decode4 w
  | 5 => decode5 w
  | 6 => decode6 w
  | _ => decode7 w

/-- A little-endian word: the byte at the lower address is the less significant (R56, R59). -/
def wordOfBytes (lo hi : Byte) : Word := hi ++ lo

/-- Why a byte sequence is no instruction. -/
inductive DecodeError where
  /-- Fewer than the two bytes of an instruction (R80). Safe: no instruction is read. -/
  | truncated
deriving DecidableEq, Repr

/-- Read one instruction from bytes in memory order and give the bytes that follow it (R80, R59). -/
def decode : List Byte → Except DecodeError (Instr × List Byte)
  | lo :: hi :: rest => .ok (decodeWord (wordOfBytes lo hi), rest)
  | _ => .error .truncated

/-- What the decoder reads from an instruction whose bits are `w`, `nbits` of them given and the others 0. -/
def decodeTableWord (nbits w : Nat) : Option Instr :=
  let v : Word := BitVec.ofNat 16 (w % 2 ^ nbits)
  match decode [v.extractLsb' 0 8, v.extractLsb' 8 8] with
  | .ok (i, _) => some i
  | .error _ => none

/-! ### The encoder -/

/-- Bits 15:7 of `addm` slot n (R87). -/
def addmHigh (n : Nat) : BitVec 9 :=
  match n with
  | 0 => 0b000110110#9
  | 1 => 0b000110111#9
  | 2 => 0b000111110#9
  | 3 => 0b000111111#9
  | 4 => 0b010110110#9
  | 5 => 0b010110111#9
  | 6 => 0b010111110#9
  | 7 => 0b010111111#9
  | 8 => 0b100111110#9
  | 9 => 0b100111111#9
  | 10 => 0b101111110#9
  | 11 => 0b101111111#9
  | 12 => 0b011111110#9
  | 13 => 0b011111111#9
  | m => 0b111#3 ++ BitVec.ofNat 3 ((m - 14) / 2) ++ 0b01#2 ++ BitVec.ofNat 1 ((m - 14) % 2)

/-- Bits 15:7 of `subm` with destination d and slot position n (R89). -/
def submHigh (d : Gpr) (n : BitVec 3) : BitVec 9 :=
  match d with
  | .r0 => 0b010#3 ++ n ++ n
  | .r1 => 0b011#3 ++ n ++ n
  | .r2 => 0b011111#6 ++ n
  | .r3 => 0b101111#6 ++ n
  | _ => 0b111#3 ++ n ++ 0b100#3

/-- The word of `push r` (R141). -/
def pushWord : Gpr → Word
  | .r0 => 0b0101101110000001#16
  | .r1 => 0b1011111110000001#16
  | .r2 => 0b0101011010000001#16
  | .r3 => 0b0111011010000001#16
  | .r4 => 0b0111111010000001#16
  | .r5 => 0b1011111010000001#16

/-- The word of a well-formed instruction, from the encoding tables R92 to R99; ignored bits are canonical (R88):
III = 111, imm6 = 000000. -/
def encode : Instr → Word
  | .lbImm d b i => 0b000#3 ++ d.bits ++ b.bits ++ i
  | .andImm r i => 0b000110#6 ++ r.bits ++ i
  | .orImm r i => 0b000111#6 ++ r.bits ++ i
  | .addm d b i => addmHigh (d.num * 6 + slotOf d b) ++ i
  | .lwImm d b i => 0b001#3 ++ d.bits ++ b.bits ++ i
  | .incmInd r => 0b001#3 ++ r.bits ++ 0b1100000001#10
  | .decmInd r => 0b001#3 ++ r.bits ++ 0b1101111111#10
  | .reservedIncm r i => 0b001#3 ++ r.bits ++ 0b110#3 ++ i
  | .adcz r => 0b001#3 ++ r.bits ++ 0b1110000001#10
  | .sbImm r b i => 0b010#3 ++ r.bits ++ b.bits ++ i
  | .xorImm r i => 0b010110#6 ++ r.bits ++ i
  | .cmpImm r i => 0b010111#6 ++ r.bits ++ i
  | .pushReg r => pushWord r
  | .subm d b i => submHigh d (BitVec.ofNat 3 (slotOf d b)) ++ i
  | .swImm r b i => 0b011#3 ++ r.bits ++ b.bits ++ i
  | .dincmInd r => 0b011#3 ++ r.bits ++ 0b1100000001#10
  | .ddecmInd r => 0b011#3 ++ r.bits ++ 0b1110000001#10
  | .reservedSwSp i => 0b011110110#9 ++ i
  | .addImm d b i => 0b100#3 ++ d.bits ++ b.bits ++ i
  | .addSp b i => 0b100110#6 ++ b.bits ++ i
  | .swi k => 0b100110110#9 ++ k ++ 0b1#1
  | .pushImm i => 0b100110111#9 ++ i
  | .addPc b i => 0b100111#6 ++ b.bits ++ i
  | .addPcLink b i => 0b100111#6 ++ b.bits ++ i
  | .li d n => 0b101#3 ++ d.bits ++ 0b0#1 ++ n
  | .addu d n => 0b101#3 ++ d.bits ++ 0b1#1 ++ n
  | .j k => 0b1011100#7 ++ k ++ 0b1#1
  | .reservedLiSp x => 0b1011100#7 ++ x ++ 0b0#1
  | .incmSp r i => 0b110#3 ++ r.bits ++ 0b000#3 ++ i
  | .decmSp r i => 0b110#3 ++ r.bits ++ 0b001#3 ++ i
  | .dincmSp r i => 0b110#3 ++ r.bits ++ 0b010#3 ++ i
  | .ddecmSp r i => 0b110#3 ++ r.bits ++ 0b011#3 ++ i
  | .ls5r r => 0b110#3 ++ r.bits ++ 0b0000000001#10
  | .last k => 0b110101000#9 ++ k ++ 0b1#1
  | .ss5r r => 0b110#3 ++ r.bits ++ 0b0010000001#10
  | .reservedSs5r x => 0b110101001#9 ++ x ++ 0b1#1
  | .reservedDincmSp r x => 0b110#3 ++ r.bits ++ 0b01#2 ++ x ++ 0b1#1
  | .lurpc d n => 0b110#3 ++ d.bits ++ 0b1#1 ++ n
  | .jal k => 0b11011#5 ++ k
  | .jc i => 0b111000000#9 ++ i
  | .jz i => 0b111001000#9 ++ i
  | .js i => 0b111010000#9 ++ i
  | .jleu i => 0b111011000#9 ++ i
  | .jl i => 0b111100000#9 ++ i
  | .jle i => 0b111101000#9 ++ i
  | .jo i => 0b111110000#9 ++ i
  | .jno i => 0b111111000#9 ++ i
  | .jnc i => 0b111000001#9 ++ i
  | .jnz i => 0b111001001#9 ++ i
  | .jns i => 0b111010001#9 ++ i
  | .jgu i => 0b111011001#9 ++ i
  | .jge i => 0b111100001#9 ++ i
  | .jg i => 0b111101001#9 ++ i
  | .mrs d s => 0b11111#5 ++ BitVec.ofNat 1 (mrsNumber d s / 16) ++ 0b001#3 ++ BitVec.ofNat 4 (mrsNumber d s % 16) ++ 0b111#3
  | .stc => 0b1111110011110111#16
  | .reservedMrs x => 0b1111110011111#13 ++ x
  | .zxt r => 0b111110100#9 ++ r.bits ++ 0b0111#4
  | .sxt r => 0b111110100#9 ++ r.bits ++ 0b1111#4
  | .cpl r => 0b111111100#9 ++ r.bits ++ 0b0111#4
  | .neg r => 0b111111100#9 ++ r.bits ++ 0b1111#4
  | .pop r => 0b11111#5 ++ r.bits.extractLsb' 2 1 ++ 0b10011#5 ++ r.bits.extractLsb' 0 2 ++ 0b111#3
  | .mf2 => 0b1111111001110111#16
  | .m2f => 0b1111111001111111#16
  | .sac d p k => 0b111#3 ++ d.bits ++ 0b101#3 ++ p.bits ++ k
  | .srImm r k => 0b111110101#9 ++ r.bits ++ k
  | .slImm r k => 0b111111101#9 ++ r.bits ++ k
  | .asrImm r k => 0b111#3 ++ r.bits ++ 0b101110#6 ++ k
  | .rlImm r k => 0b111#3 ++ r.bits ++ 0b101111#6 ++ k
  | .reservedSr r => 0b111110101#9 ++ r.bits ++ 0b0000#4
  | .reservedSl r k => 0b111111101#9 ++ r.bits ++ 0b000#3 ++ k
  | .reservedAsr r => 0b111#3 ++ r.bits ++ 0b1011100000#10
  | .reservedRl r => 0b111#3 ++ r.bits ++ 0b1011110000#10
  | .di => 0b1111101011100111#16
  | .ei => 0b1111101011101111#16
  | .reti => 0b1111101011110111#16
  | .reservedHlt x => 0b1111101011111#13 ++ x
  | .add22adc33 => 0b1111111011100111#16
  | .cadd24 => 0b1111111011101111#16
  | .cadd24adc3z => 0b1111111011110111#16
  | .csub34 => 0b1111111011111111#16
  | .lbReg d p q => 0b111#3 ++ d.bits ++ 0b110#3 ++ p.bits ++ 0b0#1 ++ q.bits
  | .lwReg d p q => 0b111#3 ++ d.bits ++ 0b111#3 ++ p.bits ++ 0b0#1 ++ q.bits
  | .sbReg r p q => 0b111#3 ++ r.bits ++ 0b110#3 ++ p.bits ++ 0b1#1 ++ q.bits
  | .swReg r p q => 0b111#3 ++ r.bits ++ 0b111#3 ++ p.bits ++ 0b1#1 ++ q.bits
  | .srReg r q => 0b111#3 ++ r.bits ++ 0b1101100#7 ++ q.bits
  | .slReg r q => 0b111#3 ++ r.bits ++ 0b1101101#7 ++ q.bits
  | .rrReg r q => 0b111#3 ++ r.bits ++ 0b1111100#7 ++ q.bits
  | .rlReg r q => 0b111#3 ++ r.bits ++ 0b1111101#7 ++ q.bits
  | .asrReg r q => 0b111#3 ++ r.bits ++ 0b1101110#7 ++ q.bits
  | .xorReg r q => 0b111#3 ++ r.bits ++ 0b1101111#7 ++ q.bits
  | .andReg r q => 0b111#3 ++ r.bits ++ 0b1111110#7 ++ q.bits
  | .orReg r q => 0b111#3 ++ r.bits ++ 0b1111111#7 ++ q.bits
  | .adcReg r q => 0b111110110#9 ++ r.bits ++ 0b0#1 ++ q.bits
  | .sbbReg r q => 0b111110110#9 ++ r.bits ++ 0b1#1 ++ q.bits
  | .addReg r q => 0b111111110#9 ++ r.bits ++ 0b0#1 ++ q.bits
  | .subReg r q => 0b111111110#9 ++ r.bits ++ 0b1#1 ++ q.bits
  | .cmpReg r q => 0b111111111#9 ++ r.bits ++ 0b1#1 ++ q.bits
  | .mov d q => 0b111#3 ++ d.bits ++ 0b110#3 ++ d.bits ++ 0b1#1 ++ q.bits
  | .msr s q => 0b111#3 ++ s.bits ++ 0b111#3 ++ s.bits ++ 0b1#1 ++ q.bits
  | .reservedRegReg r w p l q => 0b11111#5 ++ r ++ 0b11#2 ++ w ++ 0b11#2 ++ p ++ l ++ q

end Sys2Proof
end

