-- ==== Sys2Proof/Machine/Reserved.lean ====
section
/-! DEFINITION. The reserved encodings (30_encoding.md R112): the spec gives them no effect and no trap exists, so
executing one is refused with its word (U2 to U5; log 8). -/

namespace Sys2Proof.Machine

/-- reserved: `incm/decm (rrr), simm7` with an odd simm7 other than +1 and -1 (R112). -/
def execReservedIncm (r : Gpr) (imm7 : BitVec 7) (_ : State) : Result :=
  .refused (.reservedEncoding (encode (.reservedIncm r imm7)))

/-- reserved: the slot of `sw sp, (sp + imm7)` (R112). -/
def execReservedSwSp (imm7 : BitVec 7) (_ : State) : Result :=
  .refused (.reservedEncoding (encode (.reservedSwSp imm7)))

/-- reserved: the "?" slot, li-space with rrr = sp and an even imm9 (R112). -/
def execReservedLiSp (x : BitVec 8) (_ : State) : Result :=
  .refused (.reservedEncoding (encode (.reservedLiSp x)))

/-- reserved: the `ss5r` slot with rrr = 5 (R112). -/
def execReservedSs5r (x : BitVec 6) (_ : State) : Result :=
  .refused (.reservedEncoding (encode (.reservedSs5r x)))

/-- reserved: `dincm/ddecm rrr, (sp + odd imm7)` (R112). -/
def execReservedDincmSp (r : Gpr) (x : BitVec 7) (_ : State) : Result :=
  .refused (.reservedEncoding (encode (.reservedDincmSp r x)))

/-- reserved: mrs number 31 (R112). -/
def execReservedMrs (x : BitVec 3) (_ : State) : Result :=
  .refused (.reservedEncoding (encode (.reservedMrs x)))

/-- reserved: `sr PPP, 0` (R220). -/
def execReservedSr (r : Gpr) (_ : State) : Result :=
  .refused (.reservedEncoding (encode (.reservedSr r)))

/-- reserved: `sl PPP, 0` and `sl PPP, 1` (R220). -/
def execReservedSl (r : Gpr) (k : BitVec 1) (_ : State) : Result :=
  .refused (.reservedEncoding (encode (.reservedSl r k)))

/-- reserved: `asr rrr, 0` (R220). -/
def execReservedAsr (r : Gpr) (_ : State) : Result :=
  .refused (.reservedEncoding (encode (.reservedAsr r)))

/-- reserved: `rl rrr, 0` (R220). -/
def execReservedRl (r : Gpr) (_ : State) : Result :=
  .refused (.reservedEncoding (encode (.reservedRl r)))

/-- reserved: "hlt? (reserved)" (R276). -/
def execReservedHlt (x : BitVec 3) (_ : State) : Result :=
  .refused (.reservedEncoding (encode (.reservedHlt x)))

/-- reserved: register-register slots with rrr and PPP both in (sp, pc) (R112). -/
def execReservedRegReg (r : BitVec 1) (w : BitVec 1) (p : BitVec 1) (l : BitVec 1) (q : BitVec 3) (_ : State) : Result :=
  .refused (.reservedEncoding (encode (.reservedRegReg r w p l q)))

end Sys2Proof.Machine
end

