-- ==== Sys2Proof/Machine/Shift.lean ====
section
/-! DEFINITION. Shifts and rotates (45_shifts.md): the result and `LogicFlags` of it (R210). The immediate counts that
the table reserves are other constructors of `Instr`. -/

namespace Sys2Proof.Machine

/-- Shift a register by the low four bits of another (R221). -/
def shiftByReg (f : Word → Nat → Word) (r : Gpr) (q : Reg) (s : State) : Result :=
  logicResult s r (f (s.gpr r) (shiftCount (s.src q)))

/-- Shift a register by an immediate count (R222). -/
def shiftByImm (f : Word → Nat → Word) (r : Gpr) (k : BitVec 4) (s : State) : Result :=
  logicResult s r (f (s.gpr r) k.toNat)

/-- `sr rrr, qqq` (R211). -/
def execSrReg (r : Gpr) (q : Reg) (s : State) : Result := shiftByReg shiftRight r q s
/-- `sl rrr, qqq` (R212). -/
def execSlReg (r : Gpr) (q : Reg) (s : State) : Result := shiftByReg shiftLeft r q s
/-- `asr rrr, qqq` (R213). -/
def execAsrReg (r : Gpr) (q : Reg) (s : State) : Result := shiftByReg shiftArith r q s
/-- `rl rrr, qqq` (R214). -/
def execRlReg (r : Gpr) (q : Reg) (s : State) : Result := shiftByReg rotateLeft r q s
/-- `rr rrr, qqq` (R215). -/
def execRrReg (r : Gpr) (q : Reg) (s : State) : Result := shiftByReg rotateRight r q s
/-- `sr PPP, imm4` (R216). -/
def execSrImm (r : Gpr) (k : BitVec 4) (s : State) : Result := shiftByImm shiftRight r k s
/-- `sl PPP, imm4` (R217). -/
def execSlImm (r : Gpr) (k : BitVec 4) (s : State) : Result := shiftByImm shiftLeft r k s
/-- `asr rrr, imm4` (R218). -/
def execAsrImm (r : Gpr) (k : BitVec 4) (s : State) : Result := shiftByImm shiftArith r k s
/-- `rl rrr, imm4` (R219). -/
def execRlImm (r : Gpr) (k : BitVec 4) (s : State) : Result := shiftByImm rotateLeft r k s

end Sys2Proof.Machine
end

