-- ==== Sys2Proof/Machine/Stack.lean ====
section
/-! DEFINITION. `push`, `pop`, `ls5r`, `ss5r` (41_stack.md): word accesses to the data space (log 23), no flag changes
(R145; log 14), sp modulo 2^16. -/

namespace Sys2Proof.Machine

/-- Store a word at sp - 2 and lower sp to it (R140, R141, R146). -/
def pushWordOp (s : State) (v : Word) : Result :=
  andThen (s.writeWord .data (s.sp - 2) v) fun s1 => .next (s1.advance.setSp (s.sp - 2))

/-- `push simm7` (R140). -/
def execPushImm (i : BitVec 7) (s : State) : Result := pushWordOp s (sext i)

/-- `push r` (R141). -/
def execPushReg (r : Gpr) (s : State) : Result := pushWordOp s (s.gpr r)

/-- `pop r` (R142). -/
def execPop (r : Gpr) (s : State) : Result :=
  andThen (s.readWord .data s.sp) fun (v, s1) => .next ((s1.advance.setGpr r v).setSp (s.sp + 2))

/-- `ls5r rrr` (R143): r5 from sp, rrr from sp + 2. -/
def execLs5r (r : Gpr) (s : State) : Result :=
  andThen (s.readWord .data s.sp) fun (v5, s1) =>
    andThen (s1.readWord .data (s.sp + 2)) fun (v, s2) => .next ((s2.advance.setGpr .r5 v5).setGpr r v)

/-- `ss5r rrr` (R144): r5 to sp, rrr to sp + 2. -/
def execSs5r (r : Gpr) (s : State) : Result :=
  andThen (s.writeWord .data s.sp (s.gpr .r5)) fun s1 =>
    andThen (s1.writeWord .data (s.sp + 2) (s.gpr r)) fun s2 => .next s2.advance

end Sys2Proof.Machine
end

