-- ==== Sys2Proof/Machine/System.lean ====
section
/-! DEFINITION. `swi`, `reti`, `di`, `ei`, `msr`, `mrs` (48_system.md). There is no privilege (R330). -/

namespace Sys2Proof.Machine

/-- `swi simm6`: interrupt entry at `2 * simm6`, saving the address of the `swi` itself (R270, R316). -/
def execSwi (k : BitVec 6) (s : State) : Result := s.interruptEntry (swiVector k) s.pc

/-- `reti` (R271). -/
def execReti (s : State) : Result := s.interruptReturn

/-- `di` (R272). -/
def execDi (s : State) : Result := .next (s.advance.setIe false)

/-- `ei` (R273). -/
def execEi (s : State) : Result := .next (s.advance.setIe true)

/-- `msr s, r` (R274): the selector numbered by s takes the low byte of r. -/
def execMsr (n : Gpr) (q : Reg) (s : State) : Result :=
  match selectorNumber (s.gpr n) with
  | some k => .next (s.advance.setSels (s.sels.set k ((s.src q).extractLsb' 0 8)))
  | none => .fault (.reservedSelector (s.gpr n))

/-- `mrs r, s` (R275): r takes the selector numbered by s, zero-extended. -/
def execMrs (d : Gpr) (n : Gpr) (s : State) : Result :=
  match selectorNumber (s.gpr n) with
  | some k => .next (s.advance.setGpr d ((s.sels.get k).setWidth 16))
  | none => .fault (.reservedSelector (s.gpr n))

end Sys2Proof.Machine
end

