-- ==== Sys2Proof/Machine/Dispatch.lean ====
section
/-! DEFINITION. One arm per instruction: its meaning. -/

namespace Sys2Proof.Machine

def exec (i : Instr) (s : State) : Host.Outcome State Fault Refusal :=
  match i with
  | .lbImm d b imm7 => Sys2Proof.Machine.execLbImm d b imm7 s
  | .andImm r imm7 => Sys2Proof.Machine.execAndImm r imm7 s
  | .orImm r imm7 => Sys2Proof.Machine.execOrImm r imm7 s
  | .addm d b imm7 => Sys2Proof.Machine.execAddm d b imm7 s
  | .lwImm d b imm7 => Sys2Proof.Machine.execLwImm d b imm7 s
  | .incmInd r => Sys2Proof.Machine.execIncmInd r s
  | .decmInd r => Sys2Proof.Machine.execDecmInd r s
  | .reservedIncm r imm7 => Sys2Proof.Machine.execReservedIncm r imm7 s
  | .adcz r => Sys2Proof.Machine.execAdcz r s
  | .sbImm r b imm7 => Sys2Proof.Machine.execSbImm r b imm7 s
  | .xorImm r imm7 => Sys2Proof.Machine.execXorImm r imm7 s
  | .cmpImm r imm7 => Sys2Proof.Machine.execCmpImm r imm7 s
  | .pushReg r => Sys2Proof.Machine.execPushReg r s
  | .subm d b imm7 => Sys2Proof.Machine.execSubm d b imm7 s
  | .swImm r b imm7 => Sys2Proof.Machine.execSwImm r b imm7 s
  | .dincmInd r => Sys2Proof.Machine.execDincmInd r s
  | .ddecmInd r => Sys2Proof.Machine.execDdecmInd r s
  | .reservedSwSp imm7 => Sys2Proof.Machine.execReservedSwSp imm7 s
  | .addImm d b imm7 => Sys2Proof.Machine.execAddImm d b imm7 s
  | .addSp b imm7 => Sys2Proof.Machine.execAddSp b imm7 s
  | .swi simm6 => Sys2Proof.Machine.execSwi simm6 s
  | .pushImm imm7 => Sys2Proof.Machine.execPushImm imm7 s
  | .addPc b imm7 => Sys2Proof.Machine.execAddPc b imm7 s
  | .addPcLink b imm7 => Sys2Proof.Machine.execAddPcLink b imm7 s
  | .li d imm9 => Sys2Proof.Machine.execLi d imm9 s
  | .addu d imm9 => Sys2Proof.Machine.execAddu d imm9 s
  | .j simm8 => Sys2Proof.Machine.execJ simm8 s
  | .reservedLiSp x => Sys2Proof.Machine.execReservedLiSp x s
  | .incmSp r imm7 => Sys2Proof.Machine.execIncmSp r imm7 s
  | .decmSp r imm7 => Sys2Proof.Machine.execDecmSp r imm7 s
  | .dincmSp r imm7 => Sys2Proof.Machine.execDincmSp r imm7 s
  | .ddecmSp r imm7 => Sys2Proof.Machine.execDdecmSp r imm7 s
  | .ls5r r => Sys2Proof.Machine.execLs5r r s
  | .last imm6 => Sys2Proof.Machine.execLast imm6 s
  | .ss5r r => Sys2Proof.Machine.execSs5r r s
  | .reservedSs5r x => Sys2Proof.Machine.execReservedSs5r x s
  | .reservedDincmSp r x => Sys2Proof.Machine.execReservedDincmSp r x s
  | .lurpc d imm9 => Sys2Proof.Machine.execLurpc d imm9 s
  | .jal simm11 => Sys2Proof.Machine.execJal simm11 s
  | .jc imm7 => Sys2Proof.Machine.execJc imm7 s
  | .jz imm7 => Sys2Proof.Machine.execJz imm7 s
  | .js imm7 => Sys2Proof.Machine.execJs imm7 s
  | .jleu imm7 => Sys2Proof.Machine.execJleu imm7 s
  | .jl imm7 => Sys2Proof.Machine.execJl imm7 s
  | .jle imm7 => Sys2Proof.Machine.execJle imm7 s
  | .jo imm7 => Sys2Proof.Machine.execJo imm7 s
  | .jno imm7 => Sys2Proof.Machine.execJno imm7 s
  | .jnc imm7 => Sys2Proof.Machine.execJnc imm7 s
  | .jnz imm7 => Sys2Proof.Machine.execJnz imm7 s
  | .jns imm7 => Sys2Proof.Machine.execJns imm7 s
  | .jgu imm7 => Sys2Proof.Machine.execJgu imm7 s
  | .jge imm7 => Sys2Proof.Machine.execJge imm7 s
  | .jg imm7 => Sys2Proof.Machine.execJg imm7 s
  | .mrs d sel => Sys2Proof.Machine.execMrs d sel s
  | .stc => Sys2Proof.Machine.execStc s
  | .reservedMrs x => Sys2Proof.Machine.execReservedMrs x s
  | .zxt r => Sys2Proof.Machine.execZxt r s
  | .sxt r => Sys2Proof.Machine.execSxt r s
  | .cpl r => Sys2Proof.Machine.execCpl r s
  | .neg r => Sys2Proof.Machine.execNeg r s
  | .pop r => Sys2Proof.Machine.execPop r s
  | .mf2 => Sys2Proof.Machine.execMf2 s
  | .m2f => Sys2Proof.Machine.execM2f s
  | .sac d p imm4 => Sys2Proof.Machine.execSac d p imm4 s
  | .srImm r imm4 => Sys2Proof.Machine.execSrImm r imm4 s
  | .slImm r imm4 => Sys2Proof.Machine.execSlImm r imm4 s
  | .asrImm r imm4 => Sys2Proof.Machine.execAsrImm r imm4 s
  | .rlImm r imm4 => Sys2Proof.Machine.execRlImm r imm4 s
  | .reservedSr r => Sys2Proof.Machine.execReservedSr r s
  | .reservedSl r k => Sys2Proof.Machine.execReservedSl r k s
  | .reservedAsr r => Sys2Proof.Machine.execReservedAsr r s
  | .reservedRl r => Sys2Proof.Machine.execReservedRl r s
  | .di => Sys2Proof.Machine.execDi s
  | .ei => Sys2Proof.Machine.execEi s
  | .reti => Sys2Proof.Machine.execReti s
  | .reservedHlt x => Sys2Proof.Machine.execReservedHlt x s
  | .add22adc33 => Sys2Proof.Machine.execAdd22adc33 s
  | .cadd24 => Sys2Proof.Machine.execCadd24 s
  | .cadd24adc3z => Sys2Proof.Machine.execCadd24adc3z s
  | .csub34 => Sys2Proof.Machine.execCsub34 s
  | .lbReg d p q => Sys2Proof.Machine.execLbReg d p q s
  | .lwReg d p q => Sys2Proof.Machine.execLwReg d p q s
  | .sbReg r p q => Sys2Proof.Machine.execSbReg r p q s
  | .swReg r p q => Sys2Proof.Machine.execSwReg r p q s
  | .srReg r q => Sys2Proof.Machine.execSrReg r q s
  | .slReg r q => Sys2Proof.Machine.execSlReg r q s
  | .rrReg r q => Sys2Proof.Machine.execRrReg r q s
  | .rlReg r q => Sys2Proof.Machine.execRlReg r q s
  | .asrReg r q => Sys2Proof.Machine.execAsrReg r q s
  | .xorReg r q => Sys2Proof.Machine.execXorReg r q s
  | .andReg r q => Sys2Proof.Machine.execAndReg r q s
  | .orReg r q => Sys2Proof.Machine.execOrReg r q s
  | .adcReg r q => Sys2Proof.Machine.execAdcReg r q s
  | .sbbReg r q => Sys2Proof.Machine.execSbbReg r q s
  | .addReg r q => Sys2Proof.Machine.execAddReg r q s
  | .subReg r q => Sys2Proof.Machine.execSubReg r q s
  | .cmpReg r q => Sys2Proof.Machine.execCmpReg r q s
  | .mov d q => Sys2Proof.Machine.execMov d q s
  | .msr sel q => Sys2Proof.Machine.execMsr sel q s
  | .reservedRegReg r w p l q => Sys2Proof.Machine.execReservedRegReg r w p l q s

end Sys2Proof.Machine
end

