-- ==== Sys2Proof/Machine/Mini.lean ====
section
/-! DEFINITION. The mini (49_mini.md): the other value of the parameter `ISA_VARIANT` (R2, R290; log 11). Its decoder
gives a full-ISA instruction wherever the two have the same semantics, and an instruction of its own where the mini
differs: the signed sp offsets of loads and stores (R292, R293) and `decs` (R295). -/

namespace Sys2Proof.Machine

/-- An instruction of the mini. -/
inductive MiniInstr where
  /-- An instruction with the semantics of the full ISA's (R290). -/
  | shared (i : Instr)
  /-- `lb rrr, (RRR + simm7)`, the immediate always signed (R292). -/
  | lb (d : Gpr) (b : Reg) (simm7 : BitVec 7)
  /-- `lw rrr, (RRR + simm7)`, the immediate always signed (R292). -/
  | lw (d : Reg) (b : Reg) (simm7 : BitVec 7)
  /-- `sb rrr, (RRR + simm7)`, the immediate always signed (R293). -/
  | sb (r : Gpr) (b : Reg) (simm7 : BitVec 7)
  /-- `sw rrr, (RRR + simm7)`, the immediate always signed (R293). -/
  | sw (r : Reg) (b : Reg) (simm7 : BitVec 7)
  /-- `decs RRR, (sp + simm6*2)` (R295). -/
  | decs (r : Gpr) (simm6 : BitVec 6)
  /-- A word the mini reserves (R301). -/
  | reserved (w : Word)
deriving DecidableEq, Repr

/-- The instruction on a general register, or reserved when the field holds sp or pc (R301, R303; log 25). -/
def onGpr (w : Word) (r : Reg) (k : Gpr → Instr) : MiniInstr :=
  match r with
  | .gpr g => .shared (k g)
  | .sp => .reserved w
  | .pc => .reserved w

/-- Mini major 010 (R293). -/
def decodeMini2 (w : Word) : MiniInstr :=
  match fRrr w, fRRR w with
  | .gpr r, b => .sb r b (fImm7 w)
  | .sp, r => onGpr w r fun g => .xorImm g (fImm7 w)
  | .pc, r => onGpr w r fun g => .cmpImm g (fImm7 w)

/-- Mini major 100 (R294). -/
def decodeMini4 (w : Word) : MiniInstr :=
  match fRrr w, fRRR w, fOdd w with
  | .gpr d, b, _ => .shared (.addImm d b (fImm7 w))
  | .sp, _, true => .shared (.swi (fImm6 w))
  | .sp, .pc, false => .reserved w
  | .sp, b, false => .shared (.addSp b (fImm7 w))
  | .pc, .gpr b, false => .shared (.addPc b (fImm7 w))
  | .pc, .gpr b, true => .shared (.addPcLink b (fImm7 w))
  | .pc, _, _ => .reserved w

/-- Mini major 101 (R295): the 9-bit immediate is bits 9:1, `simm8` of `j` bits 9:2. -/
def decodeMini5 (w : Word) : MiniInstr :=
  match fRrr w, fOdd w with
  | .gpr d, false => .shared (.li d (w.extractLsb' 1 9))
  | .sp, false => .shared (.last (fImm6 w))
  | .pc, false =>
    match fRRR w with
    | .gpr r => .decs r (fImm6 w)
    | .sp => .reserved w
    | .pc => .reserved w
  | .gpr d, true => .shared (.addu (.gpr d) (w.extractLsb' 1 9))
  | .sp, true => .shared (.addu .sp (w.extractLsb' 1 9))
  | .pc, true => .shared (.j (w.extractLsb' 2 8))

/-- Mini major 110 (R296). -/
def decodeMini6 (w : Word) : MiniInstr :=
  match fRrr w, fOdd w with
  | .gpr d, false => .shared (.lurpc d (w.extractLsb' 1 9))
  | .gpr .r0, true => .shared .add22adc33
  | .gpr .r1, true => .shared .cadd24
  | .gpr .r2, true => .shared .cadd24adc3z
  | .gpr .r3, true => .shared .csub34
  | .gpr .r4, true => .shared .mf2
  | .gpr .r5, true => .shared .m2f
  | .sp, _ => .shared (.jal (fImm11 w))
  | .pc, _ => .shared (.jal (fImm11 w))

/-- Mini major 111, bits 5:4 = 00 (R297). -/
def decodeMiniJump (w : Word) : MiniInstr :=
  match (fImm4 w).toNat, w.getLsbD 6 with
  | 14, false => onGpr w (fRrr w) .zxt
  | 14, true => onGpr w (fRrr w) .sxt
  | 15, false => onGpr w (fRrr w) .cpl
  | 15, true => onGpr w (fRrr w) .neg
  | cond, _ => .shared (decodeJump cond (w.extractLsb' 6 7))

/-- Mini major 111, bits 6:4 = 001 (R298). -/
def decodeMiniAlu (w : Word) : MiniInstr :=
  let q := fRRR w
  match (fImm4 w).toNat with
  | 0 => onGpr w (fRrr w) fun r => .srReg r q
  | 1 => onGpr w (fRrr w) fun r => .slReg r q
  | 2 => onGpr w (fRrr w) fun r => .rrReg r q
  | 3 => onGpr w (fRrr w) fun r => .rlReg r q
  | 4 => onGpr w (fRrr w) fun r => .asrReg r q
  | 5 => onGpr w (fRrr w) fun r => .xorReg r q
  | 6 => onGpr w (fRrr w) fun r => .andReg r q
  | 7 => onGpr w (fRrr w) fun r => .orReg r q
  | 8 => onGpr w (fRrr w) fun r => .adcReg r q
  | 9 => onGpr w (fRrr w) fun r => .sbbReg r q
  | 10 => onGpr w (fRrr w) fun r => .addReg r q
  | 11 => onGpr w (fRrr w) fun r => .subReg r q
  | 12 => onGpr w (fRrr w) fun r => .cmpReg r q
  | 13 => onGpr w (fRrr w) fun r => .mov r q
  | 14 => onGpr w q fun n => .msr n (fRrr w)
  | _ =>
    match fRrr w with
    | .gpr d => onGpr w q fun n => .mrs d n
    | .sp => .reserved w
    | .pc => .reserved w

/-- Mini major 111, the other sub-opcodes (R299). -/
def decodeMiniShift (w : Word) : MiniInstr :=
  let k := fImm4 w
  match (w.extractLsb' 4 3).toNat with
  | 2 => onGpr w (fRrr w) fun r => if k = 0 then .pushReg r else .asrImm r k
  | 3 => if k = 0 then .shared .reti else onGpr w (fRrr w) fun r => .srImm r k
  | 5 =>
    match fRrr w, fRRR w with
    | .gpr d, .gpr p => .shared (if k = 0 then .adcz d else .sac d p k)
    | .gpr d, _ => if k = 0 then .shared (.adcz d) else .reserved w
    | _, _ => .reserved w
  | 6 => onGpr w (fRrr w) fun r => if k = 0 then .pop r else .rlImm r k
  | _ =>
    if k = 0 then onGpr w (fRRR w) fun p => .lwReg (fRrr w) p .pc
    else if k = 1 then
      match fRrr w with
      | .pc => .reserved w
      | r => onGpr w (fRRR w) fun p => .swReg r p .pc
    else onGpr w (fRrr w) fun r => .slImm r k

/-- Mini major 111 (R297 to R299). -/
def decodeMini7 (w : Word) : MiniInstr :=
  match (w.extractLsb' 4 3).toNat with
  | 0 => decodeMiniJump w
  | 4 => decodeMiniJump w
  | 1 => decodeMiniAlu w
  | _ => decodeMiniShift w

/-- The instruction of a 16-bit word of the mini (R303). -/
def decodeMini (w : Word) : MiniInstr :=
  match (fMajor w).toNat with
  | 0 =>
    match fRrr w with
    | .gpr d => .lb d (fRRR w) (fImm7 w)
    | .sp => onGpr w (fRRR w) fun g => .andImm g (fImm7 w)
    | .pc => onGpr w (fRRR w) fun g => .orImm g (fImm7 w)
  | 1 => .lw (fRrr w) (fRRR w) (fImm7 w)
  | 2 => decodeMini2 w
  | 3 =>
    match fRrr w with
    | .pc => .shared (.pushImm (fImm7 w))
    | r => .sw r (fRRR w) (fImm7 w)
  | 4 => decodeMini4 w
  | 5 => decodeMini5 w
  | 6 => decodeMini6 w
  | _ => decodeMini7 w

/-- The mini's load/store address: the immediate is always signed (R292). -/
def State.eaMini (s : State) (b : Reg) (i : BitVec 7) : Word := s.src b + sext i

/-- `lb` of the mini (R122 with the address rule of R292). -/
def execMiniLb (d : Gpr) (b : Reg) (i : BitVec 7) (s : State) : Result :=
  loadByte s d (spaceOf b) (s.eaMini b i)

/-- `lw` of the mini (R123 with the address rule of R292). -/
def execMiniLw (d : Reg) (b : Reg) (i : BitVec 7) (s : State) : Result :=
  loadWord s d (spaceOf b) (s.eaMini b i)

/-- `sb` of the mini (R124 with the address rule of R292). -/
def execMiniSb (r : Gpr) (b : Reg) (i : BitVec 7) (s : State) : Result :=
  storeByte s (s.gpr r) (spaceOf b) (s.eaMini b i)

/-- `sw` of the mini (R125 with the address rule of R292); the stored register may be the base (R293). -/
def execMiniSw (r : Reg) (b : Reg) (i : BitVec 7) (s : State) : Result :=
  storeWord s (s.x r) (spaceOf b) (s.eaMini b i)

/-- `decs r, (sp + simm6*2)` (R157 with the signed offset of R295). -/
def execDecs (r : Gpr) (k : BitVec 6) (s : State) : Result :=
  incMem r (s.sp + byteDistance k) (-1) s

/-- Executing an instruction of the mini. -/
def execMini (i : MiniInstr) (s : State) : Result :=
  match i with
  | .shared i => exec i s
  | .lb d b i => execMiniLb d b i s
  | .lw d b i => execMiniLw d b i s
  | .sb r b i => execMiniSb r b i s
  | .sw r b i => execMiniSw r b i s
  | .decs r k => execDecs r k s
  | .reserved w => .refused (.reservedEncoding w)

end Sys2Proof.Machine
end

