-- ==== Sys2Proof/Machine/Cycle.lean ====
section
/-! DEFINITION. The execution cycle (00_scope.md R13) for either value of `ISA_VARIANT`. -/

namespace Sys2Proof.Machine

/-- Executing an instruction word of one of the two encodings (R2). -/
def execWord (v : IsaVariant) (w : Word) (s : State) : Result :=
  match v with
  | .full => exec (decodeWord w) s
  | .mini => execMini (decodeMini w) s

/-- One step for a value of `ISA_VARIANT` (R13): latch the edges of this boundary; take a pending interrupt in place of
the instruction at pc (R317), which is then not fetched (log 7); else fetch, decode and execute. -/
def stepWith (v : IsaVariant) (s : State) : Result :=
  let s := s.latchIrq
  if s.irqPending then s.interruptEntry irqVector s.pc
  else andThen s.fetch fun (w, s) => execWord v w s

end Sys2Proof.Machine
end

