-- ==== Sys2Proof/Machine/Step.lean ====
section
/-! DEFINITION. The step of the machine, and where an instruction is put so that the next step runs it. -/

namespace Sys2Proof.Machine

/-- One step of the machine. -/
def step (s : State) : Host.Outcome State Fault Refusal := stepWith Config.isaVariant s

/-- `s` with an instruction stored where `step` fetches (log 29): the two bytes at pc in the code space. Where the fetch
would not happen, what stops it is taken away: a pc with bit 0 set, an interrupt pending at this boundary (IE is then
cleared), or a platform where memory does not answer there (the two bytes then become RAM). -/
def State.withFetchWord (s : State) (nbits w : Nat) : State :=
  let v : Word := BitVec.ofNat 16 (w % 2 ^ nbits)
  let s1 := s.setPc s.pc
  let p0 := s1.translate .code s1.pc
  let p1 := s1.translate .code (s1.pc + 1)
  let s2 := (s1.pokeByte p0 (v.extractLsb' 0 8)).pokeByte p1 (v.extractLsb' 8 8)
  let s3 :=
    if s2.readable p0 && s2.readable p1 then s2
    else { s2 with platform := { base := p0.toNat, size := 2, kind := .ram } :: s2.platform }
  if s3.latchIrq.irqPending then s3.setIe false else s3

end Sys2Proof.Machine
end

