-- ==== Sys2Proof/Asm.lean ====
section
/-! DEFINITION. Assembly text, `lo`/`hi` and the idioms of the source (30_encoding.md R101 to R107; 47_control.md R242,
R264 to R266). All of it is convention: no step of the machine uses this file. -/

namespace Sys2Proof.Asm

/-! ### Text of an instruction (R101, R102, R24) -/

/-- The name of a general register. -/
def gprText : Gpr → String
  | .r0 => "r0" | .r1 => "r1" | .r2 => "r2" | .r3 => "r3" | .r4 => "r4" | .r5 => "r5"

/-- The name of a register. -/
def regText : Reg → String
  | .gpr g => gprText g | .sp => "sp" | .pc => "pc"

/-- A signed field in decimal. -/
def signedText {n : Nat} (v : BitVec n) : String := toString v.toInt

/-- An unsigned field in decimal. -/
def unsignedText {n : Nat} (v : BitVec n) : String := toString v.toNat

/-- `(base + ximm7)`: the immediate is unsigned with sp, signed otherwise (R84). -/
def memText (b : Reg) (i : BitVec 7) : String :=
  "(" ++ regText b ++ " + " ++
    (match b with
      | .sp => unsignedText i
      | .gpr _ => signedText i
      | .pc => signedText i) ++ ")"

/-- `(base + index)`. -/
def memRegText (p : Gpr) (q : Reg) : String := "(" ++ gprText p ++ " + " ++ regText q ++ ")"

/-- The assembly text of an instruction; a reserved word has none and is shown as a data word. -/
def text (i : Instr) : String :=
  match i with
  | .lbImm d b i => "lb " ++ gprText d ++ ", " ++ memText b i
  | .andImm r i => "and " ++ gprText r ++ ", " ++ unsignedText i
  | .orImm r i => "or " ++ gprText r ++ ", " ++ unsignedText i
  | .addm d b i => "addm " ++ gprText d ++ ", " ++ memText b i
  | .lwImm d b i => "lw " ++ regText d ++ ", " ++ memText b i
  | .incmInd r => "incm (" ++ gprText r ++ ")"
  | .decmInd r => "decm (" ++ gprText r ++ ")"
  | .reservedIncm _ _ => "addr16 " ++ unsignedText (encode i)
  | .adcz r => "adcz " ++ gprText r
  | .sbImm r b i => "sb " ++ gprText r ++ ", " ++ memText b i
  | .xorImm r i => "xor " ++ gprText r ++ ", " ++ unsignedText i
  | .cmpImm r i => "cmp " ++ gprText r ++ ", " ++ signedText i
  | .pushReg r => "push " ++ gprText r
  | .subm d b i => "subm " ++ gprText d ++ ", " ++ memText b i
  | .swImm r b i => "sw " ++ regText r ++ ", " ++ memText b i
  | .dincmInd r => "dincm (" ++ gprText r ++ ")"
  | .ddecmInd r => "ddecm (" ++ gprText r ++ ")"
  | .reservedSwSp _ => "addr16 " ++ unsignedText (encode i)
  | .addImm d b i => "add " ++ gprText d ++ ", " ++ regText b ++ ", " ++ signedText i
  | .addSp b i => "add sp, " ++ regText b ++ ", " ++ signedText i
  | .swi k => "swi " ++ signedText k
  | .pushImm i => "push " ++ signedText i
  | .addPc b i => "add pc, " ++ gprText b ++ ", " ++ signedText i
  | .addPcLink b i => "add pc, " ++ gprText b ++ ", " ++ signedText i
  | .li d n => "li " ++ gprText d ++ ", " ++ signedText n
  | .addu d n => "addu " ++ regText d ++ ", " ++ unsignedText n
  | .j k => "j " ++ signedText k
  | .reservedLiSp _ => "addr16 " ++ unsignedText (encode i)
  | .incmSp r i => "incm " ++ gprText r ++ ", (sp + " ++ unsignedText i ++ ")"
  | .decmSp r i => "decm " ++ gprText r ++ ", (sp + " ++ unsignedText i ++ ")"
  | .dincmSp r i => "dincm " ++ gprText r ++ ", (sp + " ++ unsignedText i ++ ")"
  | .ddecmSp r i => "ddecm " ++ gprText r ++ ", (sp + " ++ unsignedText i ++ ")"
  | .ls5r r => "ls5r " ++ gprText r
  | .last k => "last " ++ toString (2 * k.toNat)
  | .ss5r r => "ss5r " ++ gprText r
  | .reservedSs5r _ => "addr16 " ++ unsignedText (encode i)
  | .reservedDincmSp _ _ => "addr16 " ++ unsignedText (encode i)
  | .lurpc d n => "lurpc " ++ gprText d ++ ", " ++ unsignedText n
  | .jal k => "jal " ++ signedText k
  | .jc i => "jc " ++ signedText i
  | .jz i => "jz " ++ signedText i
  | .js i => "js " ++ signedText i
  | .jleu i => "jleu " ++ signedText i
  | .jl i => "jl " ++ signedText i
  | .jle i => "jle " ++ signedText i
  | .jo i => "jo " ++ signedText i
  | .jno i => "jno " ++ signedText i
  | .jnc i => "jnc " ++ signedText i
  | .jnz i => "jnz " ++ signedText i
  | .jns i => "jns " ++ signedText i
  | .jgu i => "jgu " ++ signedText i
  | .jge i => "jge " ++ signedText i
  | .jg i => "jg " ++ signedText i
  | .mrs d s => "mrs " ++ gprText d ++ ", " ++ gprText s
  | .stc => "stc"
  | .reservedMrs _ => "addr16 " ++ unsignedText (encode i)
  | .zxt r => "zxt " ++ gprText r
  | .sxt r => "sxt " ++ gprText r
  | .cpl r => "cpl " ++ gprText r
  | .neg r => "neg " ++ gprText r
  | .pop r => "pop " ++ gprText r
  | .mf2 => "mf2"
  | .m2f => "m2f"
  | .sac d p k => "sac " ++ gprText d ++ ", " ++ gprText p ++ ", " ++ unsignedText k
  | .srImm r k => "sr " ++ gprText r ++ ", " ++ unsignedText k
  | .slImm r k => "sl " ++ gprText r ++ ", " ++ unsignedText k
  | .asrImm r k => "asr " ++ gprText r ++ ", " ++ unsignedText k
  | .rlImm r k => "rl " ++ gprText r ++ ", " ++ unsignedText k
  | .reservedSr _ => "addr16 " ++ unsignedText (encode i)
  | .reservedSl _ _ => "addr16 " ++ unsignedText (encode i)
  | .reservedAsr _ => "addr16 " ++ unsignedText (encode i)
  | .reservedRl _ => "addr16 " ++ unsignedText (encode i)
  | .di => "di"
  | .ei => "ei"
  | .reti => "reti"
  | .reservedHlt _ => "addr16 " ++ unsignedText (encode i)
  | .add22adc33 => "add22adc33"
  | .cadd24 => "cadd24"
  | .cadd24adc3z => "cadd24adc3z"
  | .csub34 => "csub34"
  | .lbReg r p q => "lb " ++ gprText r ++ ", " ++ memRegText p q
  | .lwReg r p q => "lw " ++ regText r ++ ", " ++ memRegText p q
  | .sbReg r p q => "sb " ++ gprText r ++ ", " ++ memRegText p q
  | .swReg r p q => "sw " ++ regText r ++ ", " ++ memRegText p q
  | .srReg r q => "sr " ++ gprText r ++ ", " ++ regText q
  | .slReg r q => "sl " ++ gprText r ++ ", " ++ regText q
  | .rrReg r q => "rr " ++ gprText r ++ ", " ++ regText q
  | .rlReg r q => "rl " ++ gprText r ++ ", " ++ regText q
  | .asrReg r q => "asr " ++ gprText r ++ ", " ++ regText q
  | .xorReg r q => "xor " ++ gprText r ++ ", " ++ regText q
  | .andReg r q => "and " ++ gprText r ++ ", " ++ regText q
  | .orReg r q => "or " ++ gprText r ++ ", " ++ regText q
  | .adcReg r q => "adc " ++ gprText r ++ ", " ++ regText q
  | .sbbReg r q => "sbb " ++ gprText r ++ ", " ++ regText q
  | .addReg r q => "add " ++ gprText r ++ ", " ++ regText q
  | .subReg r q => "sub " ++ gprText r ++ ", " ++ regText q
  | .cmpReg r q => "cmp " ++ gprText r ++ ", " ++ regText q
  | .mov d q => "mov " ++ gprText d ++ ", " ++ regText q
  | .msr s q => "msr " ++ gprText s ++ ", " ++ regText q
  | .reservedRegReg _ _ _ _ _ => "addr16 " ++ unsignedText (encode i)

/-! ### `lo` and `hi` (R103) -/

/-- `lo(v)`: the 7 low bits, sign-extended. -/
def lo (v : Word) : Word := (v.extractLsb' 0 7).signExtend 16

/-- `hi(v)`: the 9 bits that make up the rest of v once `lo(v)` is added back. -/
def hi (v : Word) : BitVec 9 := (v - lo v).extractLsb' 7 9

/-- `lo(v)` as the 7-bit field of an instruction. -/
def lo7 (v : Word) : BitVec 7 := v.extractLsb' 0 7

/-- `lo(v)` as the 9-bit field of `li`. -/
def lo9 (v : Word) : BitVec 9 := (v.extractLsb' 0 7).signExtend 9

/-! ### Idioms (R104, R107, R242, R265) -/

/-- `nop` is `j 0` (R242). -/
def nop : Instr := .j 0

/-- Stop: `j -1`, a jump to itself (R241, R335). -/
def stop : Instr := .j (-1)

/-- Load a 16-bit constant into r0..r5. -/
def loadConst (r : Gpr) (c : Word) : List Instr := [.li r (lo9 c), .addu (.gpr r) (hi c)]

/-- Load a pc-relative address; `ofs` counts from the instruction after the `lurpc`. -/
def loadAddress (r : Gpr) (ofs : Word) : List Instr := [.lurpc r (hi ofs), .addImm r (.gpr r) (lo7 ofs)]

/-- Load a pc-relative 16-bit value into sp, through r5, flags preserved. -/
def loadSp (ofs : Word) : List Instr := [.lurpc .r5 (hi ofs), .addSp (.gpr .r5) (lo7 ofs)]

/-- Load a constant from code. -/
def loadFromCode (r : Reg) (i : BitVec 7) : List Instr := [.lwImm r .pc i]

/-- Add a 16-bit constant. -/
def addConst (r : Gpr) (c : Word) : List Instr := [.addu (.gpr r) (hi c), .addImm r (.gpr r) (lo7 c)]

/-- Move a register to sp (R172). -/
def moveToSp (r : Gpr) : List Instr := [.addSp (.gpr r) 0]

/-- Raise sp by an even constant, full range: low part first (R361). -/
def raiseSp (c : Word) : List Instr := [.addSp .sp (lo7 c), .addu .sp (hi c)]

/-- Lower sp by an even constant, full range: high part first (R361). -/
def lowerSp (c : Word) : List Instr := [.addu .sp (hi c), .addSp .sp (lo7 c)]

/-- Adjust sp through r5, one write of sp. -/
def adjustSpViaR5 (c : Word) : List Instr :=
  [.addImm .r5 .sp (lo7 c), .addu (.gpr .r5) (hi c), .addSp (.gpr .r5) 0]

/-- The idioms that clear carry. -/
def clearCarry (r : Gpr) : List (List Instr) :=
  [[.cmpReg r (.gpr r)], [.andReg r (.gpr r)], [.orReg r (.gpr r)], [.addImm r (.gpr r) 0], [.xorReg r (.gpr r)]]

/-- The idioms that set carry: always; r not 0xFFFF; r not 0; r at least 0x8000. -/
def setCarry (r : Gpr) : List (List Instr) :=
  [[.stc], [.cmpImm r (-1)], [.neg r, .neg r], [.addReg r (.gpr r)]]

/-- Clear the bits of m, preserving the others. -/
def clearLowBits (r : Gpr) (m : BitVec 7) : List Instr := [.orImm r m, .xorImm r m]

/-- Shift left by 1 (R194, R220). -/
def shiftLeftOne (r : Gpr) : List Instr := [.addReg r (.gpr r)]

/-- Rotate right by k in 1..15 (R219). -/
def rotateRightImm (r : Gpr) (k : BitVec 4) : List Instr := [.rlImm r (-k)]

/-- Load with a 9-bit offset, through r5 (R133). -/
def loadMidRange (d : Gpr) (b : Gpr) (ofs : BitVec 9) : List Instr := [.li .r5 ofs, .lwReg (.gpr d) b (.gpr .r5)]

/-- Store with a 9-bit offset, through r5 (R133). -/
def storeMidRange (d : Gpr) (b : Gpr) (ofs : BitVec 9) : List Instr := [.li .r5 ofs, .swReg (.gpr d) b (.gpr .r5)]

/-- Load with a full-range offset; changes the base (R133). -/
def loadFullRange (d : Gpr) (b : Gpr) (ofs : Word) : List Instr :=
  [.addu (.gpr b) (hi ofs), .lwImm (.gpr d) (.gpr b) (lo7 ofs)]

/-- Load from the data space at a pc-relative address, through r5 (R133). -/
def loadRelative (d : Gpr) (ofs : Word) : List Instr := [.lurpc .r5 (hi ofs), .lwImm (.gpr d) (.gpr .r5) (lo7 ofs)]

/-- Load a word from any address, even or not (R61). -/
def loadUnaligned (d : Gpr) (b : Gpr) (ofs : BitVec 7) : List Instr :=
  [.lbImm d (.gpr b) ofs, .lbImm .r5 (.gpr b) (ofs + 1), .sac d .r5 8]

/-- Store a word to any address, even or not (R61). -/
def storeUnaligned (r : Gpr) (b : Gpr) (ofs : BitVec 7) : List Instr :=
  [.sbImm r (.gpr b) ofs, .rlImm r 8, .sbImm r (.gpr b) (ofs + 1), .rlImm r 8]

/-- Jump anywhere; `ofs` counts from the instruction after the `lurpc`. -/
def longJump (ofs : Word) : List Instr := [.lurpc .r5 (hi ofs), .addPc .r5 (lo7 ofs)]

/-- Call anywhere. -/
def longCall (ofs : Word) : List Instr := [.lurpc .r5 (hi ofs), .addPcLink .r5 (lo7 ofs + 1)]

/-- Call through a register. -/
def callRegister (r : Gpr) : List Instr := [.addPcLink r 1]

/-- Call through memory, linking first (R262). -/
def callMemory (b : Reg) (i : BitVec 7) : List Instr := [.addImm .r5 .pc 2, .lwImm .pc b i]

/-- Return from a subroutine (R263). -/
def ret : List Instr := [.addPc .r5 0]

/-- The conditional jump with the opposite condition (R265). -/
def oppositeJump : Instr → Option (BitVec 7 → Instr)
  | .jc _ => some .jnc
  | .jnc _ => some .jc
  | .jz _ => some .jnz
  | .jnz _ => some .jz
  | .js _ => some .jns
  | .jns _ => some .js
  | .jleu _ => some .jgu
  | .jgu _ => some .jleu
  | .jl _ => some .jge
  | .jge _ => some .jl
  | .jle _ => some .jg
  | .jg _ => some .jle
  | .jo _ => some .jno
  | .jno _ => some .jo
  | _ => none

/-- Prolog of a software ISR (R277). -/
def swiProlog : List Instr := [.addSp .sp (-2)]

/-- Epilog of a software ISR: return to the instruction after the `swi` (R277). -/
def swiEpilog : List Instr := [.di, .dincmSp .r5 0, .addSp .sp 2, .reti]

/-- Prolog of the generic hardware ISR (R324). -/
def hardwareProlog : List Instr :=
  [.addSp .sp (-16), .swImm (.gpr .r5) .sp 12, .swImm (.gpr .r4) .sp 10, .swImm (.gpr .r3) .sp 8,
    .swImm (.gpr .r2) .sp 6, .swImm (.gpr .r1) .sp 4, .swImm (.gpr .r0) .sp 2, .m2f, .swImm (.gpr .r2) .sp 0]

/-- Epilog of the generic hardware ISR; `ack` is what the ISR puts in to clear the requests it served (R319, R324). -/
def hardwareEpilog (ack : List Instr) : List Instr :=
  [.di, .lwImm (.gpr .r2) .sp 0, .li .r3 (-16), .addu (.gpr .r3) 8, .orReg .r2 (.gpr .r3)] ++ ack ++
    [.mf2, .lwImm (.gpr .r0) .sp 2, .lwImm (.gpr .r1) .sp 4, .lwImm (.gpr .r2) .sp 6, .lwImm (.gpr .r3) .sp 8,
      .lwImm (.gpr .r4) .sp 10, .lwImm (.gpr .r5) .sp 12, .addSp .sp 16, .reti]

/-! ### The proposed ABI (R264) -/

/-- Registers a subroutine may change; the arithmetic flags too. -/
def callerSaved : List Reg := [.gpr .r0, .gpr .r1, .gpr .r5]

/-- Registers a subroutine keeps. -/
def calleeSaved : List Reg := [.gpr .r2, .gpr .r3, .gpr .r4, .sp]

end Sys2Proof.Asm
end

