-- ==== Sys2Proof/Safety.lean ====
section
/-! DEFINITION. The terms the claims use: frames (what an instruction leaves alone), the invariant of the machine, and
what counts as a safe run. -/

namespace Sys2Proof.Machine

/-! ### Frames -/

/-- Every general register outside `but` keeps its value. -/
def SameGprs (s t : State) (but : List Gpr) : Prop := ∀ g, g ∉ but → t.gpr g = s.gpr g

/-- Every byte of physical memory outside `but` reads as before. -/
def SameBytes (s t : State) (but : List Phys) : Prop := ∀ p, p ∉ but → t.byteAt p = s.byteAt p

/-- MASK, REQ, IE, the selectors and the surroundings of the CPU (platform, coming edges, what the devices have seen) are
as before. -/
def SameSystem (s t : State) : Prop :=
  t.mask = s.mask ∧ t.req = s.req ∧ t.ie = s.ie ∧ t.sels = s.sels ∧ t.platform = s.platform ∧
    t.irqEvents = s.irqEvents ∧ t.busLog = s.busLog

/-- The frame most instructions keep: only the named general registers and the named bytes may differ, and nothing of
the system state does. It leaves open sp, pc, the arithmetic flags and `draws`. -/
def Frame (s t : State) (gprs : List Gpr) (bytes : List Phys) : Prop :=
  SameGprs s t gprs ∧ SameBytes s t bytes ∧ SameSystem s t

/-- `pc <- npc` (R9, R25), said of the states in which pc bit 0 is 0, which are all the reachable ones. -/
def Advanced (s t : State) : Prop := s.pc.getLsbD 0 = false → t.pc = s.npc

/-- The physical addresses of the two bytes of the word at a logical address. -/
def State.wordBytes (s : State) (sp : Space) (a : Word) : List Phys := [s.translate sp a, s.translate sp (a + 1)]

/-! ### What an instruction of a common shape leaves: its result and its frame -/

/-- One general register and the flags got values; pc advanced; nothing else changed. -/
def WroteReg (s t : State) (d : Gpr) (v : Word) (f : Flags) : Prop :=
  t.gpr d = v ∧ t.flags = f ∧ t.sp = s.sp ∧ t.draws = s.draws ∧ Advanced s t ∧ Frame s t [d] []

/-- The flags got values; pc advanced; nothing else changed. -/
def WroteFlags (s t : State) (f : Flags) : Prop :=
  t.flags = f ∧ t.sp = s.sp ∧ t.draws = s.draws ∧ Advanced s t ∧ Frame s t [] []

/-- sp got a value; pc advanced; nothing else changed, the flags included. -/
def WroteSp (s t : State) (v : Word) : Prop :=
  t.sp = v ∧ t.flags = s.flags ∧ t.draws = s.draws ∧ Advanced s t ∧ Frame s t [] []

/-- pc got a value; nothing else changed, the flags included. -/
def WentTo (s t : State) (target : Word) : Prop :=
  t.pc = target ∧ t.sp = s.sp ∧ t.flags = s.flags ∧ t.draws = s.draws ∧ Frame s t [] []

/-- pc got a value and r5 the address of the next instruction; nothing else changed, the flags included. -/
def WentToLinking (s t : State) (target : Word) : Prop :=
  t.pc = target ∧ t.gpr .r5 = s.npc ∧ t.sp = s.sp ∧ t.flags = s.flags ∧ t.draws = s.draws ∧ Frame s t [.r5] []

/-- A word went to memory; pc advanced; nothing else changed, sp and the flags included. -/
def StoredWord (s t : State) (sp : Space) (a : Word) (v : Word) : Prop :=
  t.wordAt sp a = v ∧ t.sp = s.sp ∧ t.flags = s.flags ∧ t.draws = s.draws ∧ Advanced s t ∧
    Frame s t [] (s.wordBytes sp a)

/-- A byte went to memory; pc advanced; nothing else changed, sp and the flags included. -/
def StoredByte (s t : State) (sp : Space) (a : Word) (v : Byte) : Prop :=
  t.byteAt (s.translate sp a) = v ∧ t.sp = s.sp ∧ t.flags = s.flags ∧ t.draws = s.draws ∧ Advanced s t ∧
    Frame s t [] [s.translate sp a]

/-- The general registers, sp, the flags, the selectors and the surroundings of the CPU are as before: what interrupt
entry and return leave alone besides MASK and REQ (R315, R271). -/
def SameProgramState (s t : State) : Prop :=
  SameGprs s t [] ∧ t.sp = s.sp ∧ t.flags = s.flags ∧ t.sels = s.sels ∧ t.platform = s.platform ∧
    t.busLog = s.busLog ∧ t.draws = s.draws

/-! ### The invariant -/

/-- pc and sp are even (R23, R25) and memory is in its canonical form. -/
def State.Inv (s : State) : Prop := s.pc.getLsbD 0 = false ∧ s.sp.getLsbD 0 = false ∧ s.mem.Wf

end Sys2Proof.Machine

namespace Sys2Proof

/-! ### Which instructions change what -/

/-- The instructions that store to memory (R61). -/
def Instr.storesToMemory : Instr → Bool
  | .sbImm _ _ _ => true
  | .sbReg _ _ _ => true
  | .swImm _ _ _ => true
  | .swReg _ _ _ => true
  | .pushImm _ => true
  | .pushReg _ => true
  | .ss5r _ => true
  | .incmInd _ => true
  | .decmInd _ => true
  | .dincmInd _ => true
  | .ddecmInd _ => true
  | .incmSp _ _ => true
  | .decmSp _ _ => true
  | .dincmSp _ _ => true
  | .ddecmSp _ _ => true
  | .swi _ => true
  | _ => false

/-- The instructions that load from memory (R61). -/
def Instr.loadsFromMemory : Instr → Bool
  | .lbImm _ _ _ => true
  | .lbReg _ _ _ => true
  | .lwImm _ _ _ => true
  | .lwReg _ _ _ => true
  | .pop _ => true
  | .ls5r _ => true
  | .addm _ _ _ => true
  | .subm _ _ _ => true
  | .incmInd _ => true
  | .decmInd _ => true
  | .dincmInd _ => true
  | .ddecmInd _ => true
  | .incmSp _ _ => true
  | .decmSp _ _ => true
  | .dincmSp _ _ => true
  | .ddecmSp _ _ => true
  | .reti => true
  | _ => false

/-- The instructions that write sp (R23). -/
def Instr.writesSp : Instr → Bool
  | .addSp _ _ => true
  | .addu .sp _ => true
  | .lwImm .sp _ _ => true
  | .lwReg .sp _ _ => true
  | .pushImm _ => true
  | .pushReg _ => true
  | .pop _ => true
  | .last _ => true
  | _ => false

/-- The instructions that may transfer control (R27), and the ill-formed `addu pc`, to which no word decodes. -/
def Instr.transfersControl : Instr → Bool
  | .j _ => true
  | .jc _ => true
  | .jz _ => true
  | .js _ => true
  | .jleu _ => true
  | .jl _ => true
  | .jle _ => true
  | .jo _ => true
  | .jno _ => true
  | .jnc _ => true
  | .jnz _ => true
  | .jns _ => true
  | .jgu _ => true
  | .jge _ => true
  | .jg _ => true
  | .jal _ => true
  | .addPc _ _ => true
  | .addPcLink _ _ => true
  | .last _ => true
  | .lwImm .pc _ _ => true
  | .lwReg .pc _ _ => true
  | .addu .pc _ => true
  | .swi _ => true
  | .reti => true
  | _ => false

/-- The instructions that may change the arithmetic flags (the rows of R31 other than the two "preserved" ones). -/
def Instr.changesFlags : Instr → Bool
  | .addReg _ _ => true
  | .adcReg _ _ => true
  | .adcz _ => true
  | .addImm _ _ _ => true
  | .addu (.gpr _) _ => true
  | .sac _ _ _ => true
  | .addm _ _ _ => true
  | .add22adc33 => true
  | .cadd24 => true
  | .cadd24adc3z => true
  | .csub34 => true
  | .subReg _ _ => true
  | .sbbReg _ _ => true
  | .cmpReg _ _ => true
  | .cmpImm _ _ => true
  | .neg _ => true
  | .subm _ _ _ => true
  | .andImm _ _ => true
  | .orImm _ _ => true
  | .xorImm _ _ => true
  | .andReg _ _ => true
  | .orReg _ _ => true
  | .xorReg _ _ => true
  | .srReg _ _ => true
  | .slReg _ _ => true
  | .asrReg _ _ => true
  | .rlReg _ _ => true
  | .rrReg _ _ => true
  | .srImm _ _ => true
  | .slImm _ _ => true
  | .asrImm _ _ => true
  | .rlImm _ _ => true
  | .incmInd _ => true
  | .decmInd _ => true
  | .dincmInd _ => true
  | .ddecmInd _ => true
  | .incmSp _ _ => true
  | .decmSp _ _ => true
  | .dincmSp _ _ => true
  | .ddecmSp _ _ => true
  | .stc => true
  | .mf2 => true
  | _ => false

/-- The bits of an instruction's word that the hardware ignores (R88): III, and the optional `imm6`. -/
def Instr.ignoredBits : Instr → Word
  | .adcz _ => 0x007E
  | .dincmInd _ => 0x007E
  | .ddecmInd _ => 0x007E
  | .ls5r _ => 0x007E
  | .ss5r _ => 0x007E
  | .pushReg _ => 0x007E
  | .mrs _ _ => 0x0007
  | .stc => 0x0007
  | .zxt _ => 0x0007
  | .sxt _ => 0x0007
  | .cpl _ => 0x0007
  | .neg _ => 0x0007
  | .pop _ => 0x0007
  | .mf2 => 0x0007
  | .m2f => 0x0007
  | .di => 0x0007
  | .ei => 0x0007
  | .reti => 0x0007
  | .add22adc33 => 0x0007
  | .cadd24 => 0x0007
  | .cadd24adc3z => 0x0007
  | .csub34 => 0x0007
  | _ => 0

/-- The encodings the table reserves (R112). -/
def Instr.isReserved : Instr → Bool
  | .reservedIncm _ _ => true
  | .reservedSwSp _ => true
  | .reservedLiSp _ => true
  | .reservedSs5r _ => true
  | .reservedDincmSp _ _ => true
  | .reservedMrs _ => true
  | .reservedSr _ => true
  | .reservedSl _ _ => true
  | .reservedAsr _ => true
  | .reservedRl _ => true
  | .reservedHlt _ => true
  | .reservedRegReg _ _ _ _ _ => true
  | _ => false

end Sys2Proof

namespace Sys2Proof.Machine

/-! ### Runs -/

/-- A run of k steps that neither faults nor is refused. -/
def SafeRun (k : Nat) (s : State) : Prop := ∃ t : State, Sys2Proof.core.run k s = Host.Outcome.next t

end Sys2Proof.Machine
end

