-- ==== Sys2Proof/Certificates/Slice0/Obligations.lean ====
section
/-! DEFINITION. The statements about the model for the provers. -/

open Sys2Proof Sys2Proof.Machine

/-- For every well-formed instruction of the full ISA, with every operand at every value the encoding admits, decoding
its two bytes (low byte first) gives that instruction and the bytes that follow. From 30_encoding.md sections 1 to
4 (fields, slot numbering, opcode map). -/
def Obligations.DecodeEncodeAgree : Prop :=
  ∀ (i : Instr) (rest : List Byte), i.WellFormed →
    decode ((encode i).extractLsb' 0 8 :: (encode i).extractLsb' 8 8 :: rest) = .ok (i, rest)

/-- Every 16-bit word decodes to a well-formed instruction; encoding that instruction gives the word back in every bit
but those the hardware ignores; changing only ignored bits changes nothing. That the decoder ignores them is
decision D10 (log 25). From 30_encoding.md section 3 (ignored bits); 30_encoding.md section 4 (decoding procedure);
92_eei_decisions.md D10. -/
def Obligations.EncodeDecodeAgree : Prop :=
  ∀ w x : Word,
    (decodeWord w).WellFormed ∧
    encode (decodeWord w) &&& ~~~(decodeWord w).ignoredBits = w &&& ~~~(decodeWord w).ignoredBits ∧
    decodeWord ((w &&& ~~~(decodeWord w).ignoredBits) ||| (x &&& (decodeWord w).ignoredBits)) = decodeWord w

/-- A word of each major opcode, as the spec prints it, decodes to the instruction the spec says it is. From
95_test_vectors.md; 96_test_vectors_derived.md. -/
def Obligations.SampleWordsDecode : Prop :=
  decodeWord 0x0503 = .lbImm .r1 (.gpr .r2) 3 ∧
    decodeWord 0x3384 = .lwImm (.gpr .r4) .pc 4 ∧
    decodeWord 0x5E7F = .cmpImm .r4 127 ∧
    decodeWord 0x677E = .swImm (.gpr .r1) .sp 126 ∧
    decodeWord 0x9B05 = .swi 2 ∧
    decodeWord 0xB24E = .addu (.gpr .r4) 78 ∧
    decodeWord 0xD601 = .lurpc .r5 1 ∧
    decodeWord 0xE4FC = .jnz 124 ∧
    decodeWord 0xF8AF = .mrs .r1 .r0 ∧
    decodeWord 0xFE6F = .pop .r5 ∧
    decodeWord 0xFEFF = .csub34 ∧
    decodeWord 0xE317 = .lbReg .r0 .r1 .pc

/-- Every encoding that the opcode table reserves is refused with its word in every state: the spec gives it no effect
(decision D8, log 8). From 30_encoding.md section 5 (reserved encodings); 92_eei_decisions.md D8. -/
def Obligations.ReservedWordsRefused : Prop :=
  ∀ s : State,
    (∀ r i, exec (.reservedIncm r i) s = .refused (.reservedEncoding (encode (.reservedIncm r i)))) ∧
    (∀ i, exec (.reservedSwSp i) s = .refused (.reservedEncoding (encode (.reservedSwSp i)))) ∧
    (∀ x, exec (.reservedLiSp x) s = .refused (.reservedEncoding (encode (.reservedLiSp x)))) ∧
    (∀ x, exec (.reservedSs5r x) s = .refused (.reservedEncoding (encode (.reservedSs5r x)))) ∧
    (∀ r x, exec (.reservedDincmSp r x) s = .refused (.reservedEncoding (encode (.reservedDincmSp r x)))) ∧
    (∀ x, exec (.reservedMrs x) s = .refused (.reservedEncoding (encode (.reservedMrs x)))) ∧
    (∀ r, exec (.reservedSr r) s = .refused (.reservedEncoding (encode (.reservedSr r)))) ∧
    (∀ r k, exec (.reservedSl r k) s = .refused (.reservedEncoding (encode (.reservedSl r k)))) ∧
    (∀ r, exec (.reservedAsr r) s = .refused (.reservedEncoding (encode (.reservedAsr r)))) ∧
    (∀ r, exec (.reservedRl r) s = .refused (.reservedEncoding (encode (.reservedRl r)))) ∧
    (∀ x, exec (.reservedHlt x) s = .refused (.reservedEncoding (encode (.reservedHlt x)))) ∧
    (∀ r w p l q, exec (.reservedRegReg r w p l q) s =
      .refused (.reservedEncoding (encode (.reservedRegReg r w p l q))))

/-- Where no interrupt is pending once the edges of this boundary are latched, and the two bytes at pc in the code
space can be read and decode to i, the step is the execution of i in the state with those edges latched; whatever
answers the one fetch of the word at pc, the step is the execution of that word's instruction in the state the
fetch leaves (decisions D13, D14 and D17; logs 6, 7, 19). From 00_scope.md section 5 (execution cycle);
92_eei_decisions.md D13, D14, D17. -/
def Obligations.StepRunsDecodedInstruction : Prop :=
  (∀ (s : State) (i : Instr), s.latchIrq.irqPending = false → s.canReadWord .code s.pc = true →
    decode [s.byteAt (s.translate .code s.pc), s.byteAt (s.translate .code (s.pc + 1))] = .ok (i, []) →
    step s = exec i s.latchIrq) ∧
    ∀ (s u : State) (w : Word), s.latchIrq.irqPending = false → s.latchIrq.fetch = .ok (w, u) →
      step s = exec (decodeWord w) u

/-- When IE is 1 and a latched request is unmasked at a boundary, the step is that of swi 31 in place of the
instruction at pc; it saves pc with IE = 1 in bit 0 at data address sp - 2, clears IE, goes to 0x003E and changes
nothing else: sp, r0..r5, flags, MASK and the latched REQ stay (decisions D13, D14, D15, D29; logs 6, 7, 22, 23).
From 60_exceptions.md sections 2 to 4 (pending, entry, hardware interrupt); 92_eei_decisions.md D13, D14, D15, D29. -/
def Obligations.StepTakesInterrupt : Prop :=
  ∀ s : State, s.latchIrq.irqPending = true →
    step s = exec (.swi 31) s.latchIrq ∧
    (s.canWriteWord .data (s.sp - 2) = true →
      ∃ t, step s = .next t ∧
        t.wordAt .data (s.sp - 2) = (s.pc &&& 0xFFFE) ||| 1 ∧ t.ie = false ∧ t.pc = 0x003E ∧
        t.req = s.latchIrq.req ∧ t.mask = s.mask ∧ t.irqEvents = s.irqEvents.tail ∧ SameProgramState s t ∧
        SameBytes s t (s.wordBytes .data (s.sp - 2)))

/-- A completed step uses up the edges of its boundary. A step that is no interrupt entry and fetches mf2 leaves of the
old requests and those edges exactly the ones whose bit in r2 is 1; every other step leaves the old requests with
those edges added, whatever MASK and IE are (decisions D14 and D24, log 6). From 60_exceptions.md section 2
(latching, clearing); 92_eei_decisions.md D14, D24. -/
def Obligations.EdgesAreLatched : Prop :=
  ∀ s t : State, step s = .next t →
    t.irqEvents = s.irqEvents.tail ∧
    (s.latchIrq.irqPending = false ∧ (∃ w u, s.fetch = .ok (w, u) ∧ decodeWord w = .mf2) →
      t.req = (s.req ||| s.irqEvents.headD 0) &&& (s.gpr .r2).extractLsb' 4 6) ∧
    (¬(s.latchIrq.irqPending = false ∧ ∃ w u, s.fetch = .ok (w, u) ∧ decodeWord w = .mf2) →
      t.req = s.req ||| s.irqEvents.headD 0)

/-- Whatever the unspecified state is, after reset pc = 0x0000, IE = 0, sel0 = 0 and sel4 = 0; the first instruction is
fetched from physical address 0 and code and data addresses 0x0000 to 0x3FFF map to physical block 0; nothing is
saved in memory. Cites R350. -/
def Obligations.ResetState : Prop :=
  ∀ (u : Unspecified) (platform : List Region) (edges : List (BitVec 6)) (n : Nat),
    (State.resetWith u platform edges n).pc = 0 ∧ (State.resetWith u platform edges n).ie = false ∧
    (State.resetWith u platform edges n).sels.sel0 = 0 ∧ (State.resetWith u platform edges n).sels.sel4 = 0 ∧
    (State.resetWith u platform edges n).mem = u.mem ∧
    (State.resetWith u platform edges n).translate .code (State.resetWith u platform edges n).pc = 0 ∧
    ∀ a : Word, a.toNat < 0x4000 →
      ((State.resetWith u platform edges n).translate .code a).toNat = a.toNat ∧
      ((State.resetWith u platform edges n).translate .data a).toNat = a.toNat

/-- pc and sp are even and memory is in canonical form after reset, for every assignment of the unspecified values
whose memory is canonical, State.reset included (its zero values are logs 1 and 2). From 10_state.md sections 1, 2;
70_reset_and_hazards.md section 1. -/
def Obligations.ResetMeetsInvariant : Prop :=
  State.reset.Inv ∧
    ∀ (u : Unspecified) (platform : List Region) (edges : List (BitVec 6)) (n : Nat), u.mem.Wf →
      (State.resetWith u platform edges n).Inv

/-- From every state with even pc, even sp and canonical memory, a completed step, an interrupt entry included, gives a
state with even pc, even sp and canonical memory. Bit 0 of what is written to sp or pc is dropped by decision D5
(log 12); the canonical form is the model's own. From 10_state.md sections 1, 2; 20_memory.md section 2;
92_eei_decisions.md D5. -/
def Obligations.InvariantKept : Prop :=
  ∀ s t : State, s.Inv → step s = .next t → t.Inv

/-- Whatever instruction completes: IE changes only by di, ei, swi and reti; a selector only by msr; MASK only by mf2;
REQ only by mf2, which can only clear; the platform and the coming edges never. There is no privilege that would
say otherwise. From 10_state.md sections 3, 4, 5; 60_exceptions.md sections 2, 6. -/
def Obligations.SystemStateWriters : Prop :=
  ∀ (i : Instr) (s t : State), exec i s = .next t →
    (t.ie = s.ie ∨ i = .di ∨ i = .ei ∨ i = .reti ∨ ∃ k, i = .swi k) ∧
    (t.sels = s.sels ∨ ∃ n q, i = .msr n q) ∧
    (t.mask = s.mask ∨ i = .mf2) ∧
    (t.req = s.req ∨ i = .mf2 ∧ ∀ k, t.req.getLsbD k = true → s.req.getLsbD k = true) ∧
    t.platform = s.platform ∧ t.irqEvents = s.irqEvents

/-- A completed instruction that is not one of sb, sw, push, ss5r, the incm family and swi leaves memory as it was; one
that is not add sp, addu sp, lw sp, push, pop or last leaves sp as it was; one that neither loads nor stores is
seen by no device (the record of what devices see is log 31). From 20_memory.md section 2 (access widths per
instruction); 10_state.md section 1 (what writes sp). -/
def Obligations.MemoryAndSpWriters : Prop :=
  ∀ (i : Instr) (s t : State), exec i s = .next t →
    (i.storesToMemory = false → t.mem = s.mem) ∧ (i.writesSp = false → t.sp = s.sp) ∧
    (i.loadsFromMemory = false → i.storesToMemory = false → t.busLog = s.busLog)

/-- A completed instruction outside the flag-changing rows of the spec's summary leaves C, Z, S and O as they were (for
the instructions whose description is silent that is decision D6, log 14); one that is no control transfer ends
with pc = pc + 2, from any even pc. From 10_state.md section 3 (summary of flag effects); 10_state.md section 2
(what writes pc); 92_eei_decisions.md D6. -/
def Obligations.FlagsAndPcWriters : Prop :=
  ∀ (i : Instr) (s t : State), exec i s = .next t →
    (i.changesFlags = false → t.flags = s.flags) ∧ (i.transfersControl = false → Advanced s t)

/-- On a platform of RAM everywhere, a step that faults does so for a word access at an odd address or for a selector
number above 7, and a step that is refused has fetched a word that the table reserves, and names it (decisions D8,
D9, D12; logs 8, 9, 10). From 60_exceptions.md section 1 (no synchronous exception); 93_implementation_defined.md
U2, U6, U7; 92_eei_decisions.md D8, D9, D12. -/
def Obligations.StopsOnlyWhereUndefined : Prop :=
  ∀ s : State, s.platform = [] →
    (∀ f, step s = .fault f →
      (∃ sp a, f = .misaligned sp a ∧ a.getLsbD 0 = true) ∨ ∃ n, f = .reservedSelector n ∧ 8 ≤ n.toNat) ∧
    (∀ r, step s = .refused r →
      ∃ w, s.fetch = .ok (w, s) ∧ (decodeWord w).isReserved = true ∧ r = .reservedEncoding w)

/-- AddFlags and SubFlags give the exact sum or difference modulo 2^16, C for an unsigned overflow or borrow, Z for a
zero result, S its bit 15 and O for an exact signed result outside -32768..32767; LogicFlags gives Z and S of the
result and clears C and O. Cites R180, R181, R182. -/
def Obligations.FlagFunctions : Prop :=
  ∀ (a b : Word) (c : Bool),
    ((addFlags a b c).1 = BitVec.ofNat 16 ((a.toNat + b.toNat + c.toNat) % 65536) ∧
      ((addFlags a b c).2.c = true ↔ 65536 ≤ a.toNat + b.toNat + c.toNat) ∧
      ((addFlags a b c).2.z = true ↔ (addFlags a b c).1 = 0) ∧
      (addFlags a b c).2.s = (addFlags a b c).1.msb ∧
      ((addFlags a b c).2.o = true ↔
        a.toInt + b.toInt + c.toNat < -32768 ∨ 32767 < a.toInt + b.toInt + c.toNat)) ∧
    ((subFlags a b c).1 = BitVec.ofInt 16 ((a.toNat : Int) - b.toNat - c.toNat) ∧
      ((subFlags a b c).2.c = true ↔ a.toNat < b.toNat + c.toNat) ∧
      ((subFlags a b c).2.z = true ↔ (subFlags a b c).1 = 0) ∧
      (subFlags a b c).2.s = (subFlags a b c).1.msb ∧
      ((subFlags a b c).2.o = true ↔
        a.toInt - b.toInt - c.toNat < -32768 ∨ 32767 < a.toInt - b.toInt - c.toNat)) ∧
    ((logicFlags a).c = false ∧ ((logicFlags a).z = true ↔ a = 0) ∧ (logicFlags a).s = a.msb ∧
      (logicFlags a).o = false)

/-- SR divides by 2^n, SL multiplies by 2^n modulo 2^16, ASR is floor division of the signed value by 2^n, RL moves bit
i to position i + n modulo 16 and RR bit i + n modulo 16 to position i; a count of 0 leaves the value. From
45_shifts.md section 1 (common definition). -/
def Obligations.ShiftFunctions : Prop :=
  ∀ (v : Word) (n : Nat), n < 16 →
    (shiftRight v n).toNat = v.toNat / 2 ^ n ∧
    (shiftLeft v n).toNat = v.toNat * 2 ^ n % 65536 ∧
    (shiftArith v n).toInt = Int.fdiv v.toInt (2 ^ n) ∧
    (∀ i, i < 16 → (rotateLeft v n).getLsbD ((i + n) % 16) = v.getLsbD i) ∧
    (∀ i, i < 16 → (rotateRight v n).getLsbD i = v.getLsbD ((i + n) % 16))

/-- With the flags of SubFlags(a, b, 0), the conditions lu, e, leu, l, le, geu, ne, gu, ge and g hold exactly when a <
b, a = b and so on hold as unsigned or signed numbers. The formulas are decision D19 (log 17). From 47_control.md
section 3 (conditional jumps, check of the formulas); 92_eei_decisions.md D19. -/
def Obligations.CompareRelations : Prop :=
  ∀ a b : Word,
    condC (subFlags a b false).2 = decide (a.toNat < b.toNat) ∧
    condZ (subFlags a b false).2 = decide (a = b) ∧
    condLeu (subFlags a b false).2 = decide (a.toNat ≤ b.toNat) ∧
    condL (subFlags a b false).2 = decide (a.toInt < b.toInt) ∧
    condLe (subFlags a b false).2 = decide (a.toInt ≤ b.toInt) ∧
    condNc (subFlags a b false).2 = decide (b.toNat ≤ a.toNat) ∧
    condNz (subFlags a b false).2 = decide (a ≠ b) ∧
    condGu (subFlags a b false).2 = decide (b.toNat < a.toNat) ∧
    condGe (subFlags a b false).2 = decide (b.toInt ≤ a.toInt) ∧
    condG (subFlags a b false).2 = decide (b.toInt < a.toInt)

/-- In every state, the physical address of a logical address is the value of selector a[15:14] (plus 4 in the data
space) times 16384 plus the low 14 bits of a: there is no bypass, no permission and no fault. Cites R52. -/
def Obligations.Translation : Prop :=
  ∀ (s : State) (a : Word) (k : Fin 8),
    (k.val = a.toNat / 16384 → (s.translate .code a).toNat = (s.sels.get k).toNat * 16384 + a.toNat % 16384) ∧
    (k.val = a.toNat / 16384 + 4 →
      (s.translate .data a).toNat = (s.sels.get k).toNat * 16384 + a.toNat % 16384)

/-- Where memory answers, a byte read gives the byte at the translated address and a byte write puts it there; a word
read at an even address gives b1 : b0 of the two bytes of one block, a word write puts the low byte at a and the
high byte at a + 1; a read changes no state, a write no other byte. A word access at an odd address stops as
misaligned: that is decision D9 (log 9). From 20_memory.md section 2 (memory primitives, byte order, alignment);
92_eei_decisions.md D9. -/
def Obligations.MemoryPrimitives : Prop :=
  ∀ (s : State) (sp : Space) (a v : Word) (x : Byte),
    (s.readable (s.translate sp a) = true → s.readByte sp a = .ok (s.byteAt (s.translate sp a), s)) ∧
    (s.writable (s.translate sp a) = true →
      ∃ t, s.writeByte sp a x = .ok t ∧ t.byteAt (s.translate sp a) = x ∧ SameBytes s t [s.translate sp a]) ∧
    (a.getLsbD 0 = false → (s.translate sp (a + 1)).toNat = (s.translate sp a).toNat + 1) ∧
    (s.canReadWord sp a = true →
      ∃ w, s.readWord sp a = .ok (w, s) ∧
        w.toNat = (s.byteAt (s.translate sp (a + 1))).toNat * 256 + (s.byteAt (s.translate sp a)).toNat) ∧
    (s.canWriteWord sp a = true →
      ∃ t, s.writeWord sp a v = .ok t ∧ (t.byteAt (s.translate sp a)).toNat = v.toNat % 256 ∧
        (t.byteAt (s.translate sp (a + 1))).toNat = v.toNat / 256 ∧ SameBytes s t (s.wordBytes sp a)) ∧
    (a.getLsbD 0 = true →
      s.readWord sp a = .error (.misaligned sp a) ∧ s.writeWord sp a v = .error (.misaligned sp a))

/-- After a word is stored, a word read at any even logical address of either space that maps to the same physical
address, an instruction fetch included, gives that word, and byte reads give its low and high byte; a word at any
other physical pair reads as before, whatever answers there (decisions D16, D17; log 19). From 20_memory.md
sections 1, 5 (overlapping spaces, sequential memory, fetch coherence); 92_eei_decisions.md D16, D17. -/
def Obligations.StoreLoadAlias : Prop :=
  ∀ (s : State) (sp k : Space) (a b v : Word), s.canWriteWord sp a = true →
    ∃ t, s.writeWord sp a v = .ok t ∧
      (b.getLsbD 0 = false → s.translate k b = s.translate sp a →
        t.readWord k b = .ok (v, t) ∧ t.readByte k b = .ok (v.extractLsb' 0 8, t) ∧
          t.readByte k (b + 1) = .ok (v.extractLsb' 8 8, t)) ∧
      (b.getLsbD 0 = false → s.translate k b ≠ s.translate sp a →
        (∀ w u, s.readWord k b = .ok (w, u) → t.readWord k b = .ok (w, u.setMem t.mem)) ∧
        ∀ f, s.readWord k b = .error f → t.readWord k b = .error f) ∧
      (s.pc.getLsbD 0 = false → s.translate .code s.pc = s.translate sp a → t.fetch = .ok (v, t))

/-- Where a device of the platform answers, lb, lw, sb, sw in both forms, the incm family, ls5r and ss5r complete: a
load gives the answer of the device after what devices have seen so far, every access is recorded exactly once in
program order (a word as one access: log 32), and nothing changes but that record and what the instruction does on
memory. A device answers as its table says and goes to the state the table says; what other devices see leaves its
state. ROM that ignores writes and absent addresses with a fixed byte let the machine go on; where the platform
does not say, the access stops (decisions D16, D20; logs 4, 31, 32). From 20_memory.md sections 1, 2, 5 (physical
map, widths, side effects, sequential accesses); 60_exceptions.md section 1; 92_eei_decisions.md D16, D20. -/
def Obligations.PlatformBehaviour : Prop :=
  (∀ (s : State) (d : Device) (r : Gpr) (b : Reg) (i : BitVec 7) (g : Gpr) (q : Reg) (k : Space) (a : Word) (p : Phys)
      (lb : Instr) (lw : Reg → Instr) (sb : Instr) (sw : Reg → Instr),
      (k, a, lb, lw, sb, sw) ∈ ([
        (spaceOf b, s.eaImm b i, .lbImm r b i, (.lwImm · b i), .sbImm r b i, (.swImm · b i)),
        (spaceOf q, s.eaReg g q, .lbReg r g q, (.lwReg · g q), .sbReg r g q, (.swReg · g q))] :
          List (Space × Word × Instr × (Reg → Instr) × Instr × (Reg → Instr))) →
      p = s.translate k a → kindAt s.platform p.toNat = .device d →
      (∃ t, exec lb s = .next t ∧ t.busLog = (d.number, ⟨p, .byte, none⟩) :: s.busLog ∧
        WroteReg (s.deviceSees d ⟨p, .byte, none⟩) t r ((d.answer s.busLog ⟨p, .byte, none⟩) &&& 0xFF) s.flags) ∧
      (∃ t, exec sb s = .next t ∧ t.busLog = (d.number, ⟨p, .byte, some (s.gpr r &&& 0xFF)⟩) :: s.busLog ∧
        WroteFlags (s.deviceSees d ⟨p, .byte, some (s.gpr r &&& 0xFF)⟩) t s.flags) ∧
      (a.getLsbD 0 = false → kindAt s.platform (s.translate k (a + 1)).toNat = .device d →
        (∃ t, exec (lw (.gpr r)) s = .next t ∧ t.busLog = (d.number, ⟨p, .word, none⟩) :: s.busLog ∧
          WroteReg (s.deviceSees d ⟨p, .word, none⟩) t r (d.answer s.busLog ⟨p, .word, none⟩) s.flags) ∧
        (∃ t, exec (lw .sp) s = .next t ∧ t.busLog = (d.number, ⟨p, .word, none⟩) :: s.busLog ∧
          WroteSp (s.deviceSees d ⟨p, .word, none⟩) t (d.answer s.busLog ⟨p, .word, none⟩ &&& 0xFFFE)) ∧
        (∃ t, exec (lw .pc) s = .next t ∧ t.busLog = (d.number, ⟨p, .word, none⟩) :: s.busLog ∧
          WentTo (s.deviceSees d ⟨p, .word, none⟩) t (d.answer s.busLog ⟨p, .word, none⟩ &&& 0xFFFE)) ∧
        ∀ x, ∃ t, exec (sw x) s = .next t ∧ t.busLog = (d.number, ⟨p, .word, some (s.x x)⟩) :: s.busLog ∧
          WroteFlags (s.deviceSees d ⟨p, .word, some (s.x x)⟩) t s.flags)) ∧
    (∀ (s : State) (d : Device) (r : Gpr) (n : BitVec 7) (i : Instr) (a delta m : Word) (p : Phys),
      (i, a, delta) ∈ ([(.incmInd r, s.gpr r, 1), (.decmInd r, s.gpr r, -1), (.dincmInd r, s.gpr r, 2),
        (.ddecmInd r, s.gpr r, -2), (.incmSp r n, s.eaSp n, 1), (.decmSp r n, s.eaSp n, -1),
        (.dincmSp r n, s.eaSp n, 2), (.ddecmSp r n, s.eaSp n, -2)] : List (Instr × Word × Word)) →
      a.getLsbD 0 = false → p = s.translate .data a → kindAt s.platform p.toNat = .device d →
      kindAt s.platform (s.translate .data (a + 1)).toNat = .device d → m = d.answer s.busLog ⟨p, .word, none⟩ →
      ∃ t, exec i s = .next t ∧
        t.busLog = (d.number, ⟨p, .word, some (m + delta)⟩) :: (d.number, ⟨p, .word, none⟩) :: s.busLog ∧
        t.gpr r = m ∧ (t.flags.z = true ↔ m + delta = 0) ∧ t.flags.s = (m + delta).msb ∧ t.sp = s.sp ∧
        Advanced s t ∧
        Frame ((s.deviceSees d ⟨p, .word, none⟩).deviceSees d ⟨p, .word, some (m + delta)⟩) t [r] []) ∧
    (∀ (s : State) (d e : Device) (r : Gpr) (p q : Phys), s.sp.getLsbD 0 = false → p = s.translate .data s.sp →
      q = s.translate .data (s.sp + 2) → kindAt s.platform p.toNat = .device d →
      kindAt s.platform (s.translate .data (s.sp + 1)).toNat = .device d → kindAt s.platform q.toNat = .device e →
      kindAt s.platform (s.translate .data (s.sp + 2 + 1)).toNat = .device e →
      (∃ t, exec (.ls5r r) s = .next t ∧
        t.busLog = (e.number, ⟨q, .word, none⟩) :: (d.number, ⟨p, .word, none⟩) :: s.busLog ∧
        t.gpr r = e.answer ((d.number, ⟨p, .word, none⟩) :: s.busLog) ⟨q, .word, none⟩ ∧
        (r ≠ .r5 → t.gpr .r5 = d.answer s.busLog ⟨p, .word, none⟩) ∧ t.sp = s.sp ∧ t.flags = s.flags ∧
        Advanced s t ∧ Frame ((s.deviceSees d ⟨p, .word, none⟩).deviceSees e ⟨q, .word, none⟩) t [.r5, r] []) ∧
      (∃ t, exec (.ss5r r) s = .next t ∧
        t.busLog = (e.number, ⟨q, .word, some (s.gpr r)⟩) :: (d.number, ⟨p, .word, some (s.gpr .r5)⟩) :: s.busLog ∧
        WroteFlags ((s.deviceSees d ⟨p, .word, some (s.gpr .r5)⟩).deviceSees e ⟨q, .word, some (s.gpr r)⟩) t s.flags)) ∧
    (∀ (d : Device) (log : List (Nat × Access)) (a : Access) (n : Nat) (l : DeviceRule),
      d.stateAfter [] = d.start ∧ (n ≠ d.number → d.stateAfter ((n, a) :: log) = d.stateAfter log) ∧
      (d.lineFor (d.stateAfter log) a = some l →
        l ∈ d.rules ∧ l.state = d.stateAfter log ∧ l.access = a ∧ d.answer log a = l.answer ∧
        d.stateAfter ((d.number, a) :: log) = l.next)) ∧
    ∀ (s : State) (p : Phys) (v x : Byte),
      (kindAt s.platform p.toNat = .rom true → s.busWrite p v = .ok s) ∧
      (kindAt s.platform p.toNat = .rom false → s.busWrite p v = .error (.romWrite p)) ∧
      (kindAt s.platform p.toNat = .absent (some x) → s.busRead p = .ok (x, s) ∧ s.busWrite p v = .ok s) ∧
      (kindAt s.platform p.toNat = .absent none →
        s.busRead p = .error (.absentAddress p) ∧ s.busWrite p v = .error (.absentAddress p))

/-- With no region of another kind on the platform (the model's choice for State.reset, log 3), every byte can be read
and written, and a word exactly at every even address of both spaces. From 20_memory.md sections 1, 2;
92_eei_decisions.md D20. -/
def Obligations.RamAnswersEvenWords : Prop :=
  State.reset.platform = [] ∧
    ∀ s : State, s.platform = [] → ∀ (sp : Space) (a : Word),
      s.readable (s.translate sp a) = true ∧ s.writable (s.translate sp a) = true ∧
      s.canReadWord sp a = !a.getLsbD 0 ∧ s.canWriteWord sp a = !a.getLsbD 0

/-- A register + immediate address is src(B) plus the immediate, unsigned when B is sp and signed otherwise, modulo
2^16; a register + register address is the sum of both modulo 2^16; the space is code exactly when the address is
formed with pc, whose value is pc + 2. Cites R120, R121. -/
def Obligations.EffectiveAddresses : Prop :=
  ∀ (s : State) (i : BitVec 7) (g p : Gpr) (q : Reg),
    s.eaImm .sp i = BitVec.ofInt 16 (s.sp.toNat + i.toNat) ∧
    s.eaImm .pc i = BitVec.ofInt 16 (s.pc.toNat + 2 + i.toInt) ∧
    s.eaImm (.gpr g) i = BitVec.ofInt 16 ((s.gpr g).toNat + i.toInt) ∧
    s.eaReg p q = BitVec.ofNat 16 ((s.gpr p).toNat + (s.src q).toNat) ∧
    s.src (.gpr g) = s.gpr g ∧ s.src .sp = s.sp ∧ s.src .pc = s.pc + 2 ∧
    (spaceOf q = .code ↔ q = .pc) ∧ (spaceOf q = .data ↔ q ≠ .pc)

/-- Where the addressed byte can be read, both forms of lb put it, zero-extended, in the destination and change nothing
else but pc. That the flags stay is decision D6, that the address uses the old registers D22 (logs 14, 18). From
40_loads_stores.md sections 2 to 4; 92_eei_decisions.md D6, D22. -/
def Obligations.LoadByte : Prop :=
  ∀ (s : State) (d : Gpr),
    (∀ (b : Reg) (i : BitVec 7), s.readable (s.translate (spaceOf b) (s.eaImm b i)) = true →
      ∃ t, exec (.lbImm d b i) s = .next t ∧
        WroteReg s t d ((s.byteAt (s.translate (spaceOf b) (s.eaImm b i))).setWidth 16) s.flags) ∧
    (∀ (p : Gpr) (q : Reg), s.readable (s.translate (spaceOf q) (s.eaReg p q)) = true →
      ∃ t, exec (.lbReg d p q) s = .next t ∧
        WroteReg s t d ((s.byteAt (s.translate (spaceOf q) (s.eaReg p q))).setWidth 16) s.flags)

/-- Where the addressed word can be read, both forms of lw put it in r0..r5, or in sp or pc with bit 0 dropped; a load
of pc is a jump; nothing else changes, flags included (decisions D5, D6, D22; logs 12, 14, 18). From
40_loads_stores.md sections 2 to 4; 47_control.md section 4 (indirect jump through memory); 92_eei_decisions.md D5,
D6, D22. -/
def Obligations.LoadWord : Prop :=
  ∀ s : State,
    (∀ (b : Reg) (i : BitVec 7), s.canReadWord (spaceOf b) (s.eaImm b i) = true →
      (∀ d, ∃ t, exec (.lwImm (.gpr d) b i) s = .next t ∧
        WroteReg s t d (s.wordAt (spaceOf b) (s.eaImm b i)) s.flags) ∧
      (∃ t, exec (.lwImm .sp b i) s = .next t ∧ WroteSp s t (s.wordAt (spaceOf b) (s.eaImm b i) &&& 0xFFFE)) ∧
      (∃ t, exec (.lwImm .pc b i) s = .next t ∧ WentTo s t (s.wordAt (spaceOf b) (s.eaImm b i) &&& 0xFFFE))) ∧
    (∀ (p : Gpr) (q : Reg), s.canReadWord (spaceOf q) (s.eaReg p q) = true →
      (∀ d, ∃ t, exec (.lwReg (.gpr d) p q) s = .next t ∧
        WroteReg s t d (s.wordAt (spaceOf q) (s.eaReg p q)) s.flags) ∧
      (∃ t, exec (.lwReg .sp p q) s = .next t ∧ WroteSp s t (s.wordAt (spaceOf q) (s.eaReg p q) &&& 0xFFFE)) ∧
      (∃ t, exec (.lwReg .pc p q) s = .next t ∧ WentTo s t (s.wordAt (spaceOf q) (s.eaReg p q) &&& 0xFFFE)))

/-- Where the addressed byte is RAM, both forms of sb put the low 8 bits of the register there, whichever registers
form the address, and change no other byte, register or flag (decisions D6, D11; logs 14, 16). From
40_loads_stores.md sections 2 to 4; 92_eei_decisions.md D6, D11. -/
def Obligations.StoreByte : Prop :=
  ∀ (s : State) (r : Gpr),
    (∀ (b : Reg) (i : BitVec 7), s.writable (s.translate (spaceOf b) (s.eaImm b i)) = true →
      ∃ t, exec (.sbImm r b i) s = .next t ∧
        StoredByte s t (spaceOf b) (s.eaImm b i) ((s.gpr r).extractLsb' 0 8)) ∧
    (∀ (p : Gpr) (q : Reg), s.writable (s.translate (spaceOf q) (s.eaReg p q)) = true →
      ∃ t, exec (.sbReg r p q) s = .next t ∧
        StoredByte s t (spaceOf q) (s.eaReg p q) ((s.gpr r).extractLsb' 0 8))

/-- Where the addressed word is RAM at an even address, both forms of sw put the register (r0..r5 or sp) there,
whichever registers form the address, and change no other byte, register or flag (decisions D6, D11; logs 14, 16).
From 40_loads_stores.md sections 2 to 4; 92_eei_decisions.md D6, D11. -/
def Obligations.StoreWord : Prop :=
  ∀ (s : State) (r : Reg),
    (∀ (b : Reg) (i : BitVec 7), s.canWriteWord (spaceOf b) (s.eaImm b i) = true →
      ∃ t, exec (.swImm r b i) s = .next t ∧ StoredWord s t (spaceOf b) (s.eaImm b i) (s.x r)) ∧
    (∀ (p : Gpr) (q : Reg), s.canWriteWord (spaceOf q) (s.eaReg p q) = true →
      ∃ t, exec (.swReg r p q) s = .next t ∧ StoredWord s t (spaceOf q) (s.eaReg p q) (s.x r))

/-- lw, sw, addm, subm and the incm family stop with a misaligned fault where their address is odd (decision D9, log
9); with even pc and sp that is always so for lw of sp or pc at an odd offset from sp or pc, sw sp at an odd offset
from pc, and addm and subm at an odd offset from sp. From 20_memory.md section 2 (alignment); 30_encoding.md
section 5 (always-misaligned encodings); 92_eei_decisions.md D9. -/
def Obligations.MisalignedWordsStop : Prop :=
  ∀ s : State,
    (∀ d r (b : Reg) (i : BitVec 7), (s.eaImm b i).getLsbD 0 = true →
      exec (.lwImm d b i) s = .fault (.misaligned (spaceOf b) (s.eaImm b i)) ∧
      exec (.swImm d b i) s = .fault (.misaligned (spaceOf b) (s.eaImm b i)) ∧
      exec (.addm r b i) s = .fault (.misaligned .data (s.eaImm b i)) ∧
      exec (.subm r b i) s = .fault (.misaligned .data (s.eaImm b i))) ∧
    (∀ d (p : Gpr) (q : Reg), (s.eaReg p q).getLsbD 0 = true →
      exec (.lwReg d p q) s = .fault (.misaligned (spaceOf q) (s.eaReg p q)) ∧
      exec (.swReg d p q) s = .fault (.misaligned (spaceOf q) (s.eaReg p q))) ∧
    (∀ r : Gpr, (s.gpr r).getLsbD 0 = true →
      exec (.incmInd r) s = .fault (.misaligned .data (s.gpr r)) ∧
      exec (.decmInd r) s = .fault (.misaligned .data (s.gpr r)) ∧
      exec (.dincmInd r) s = .fault (.misaligned .data (s.gpr r)) ∧
      exec (.ddecmInd r) s = .fault (.misaligned .data (s.gpr r))) ∧
    (∀ i : BitVec 7, s.Inv → i.getLsbD 0 = true →
      (s.eaImm .sp i).getLsbD 0 = true ∧ (s.eaImm .pc i).getLsbD 0 = true)

/-- Where the word below sp is RAM, push puts the sign-extended immediate or the register there and lowers sp by 2,
modulo 2^16; no other byte, register or flag changes (decisions D6, D30; logs 14, 23). From 41_stack.md sections 1,
2; 92_eei_decisions.md D6, D30. -/
def Obligations.PushWords : Prop :=
  ∀ s : State, s.canWriteWord .data (s.sp - 2) = true →
    (∀ i : BitVec 7, ∃ t, exec (.pushImm i) s = .next t ∧
      t.wordAt .data (s.sp - 2) = BitVec.ofInt 16 i.toInt ∧ t.sp = s.sp - 2 ∧ t.flags = s.flags ∧
      t.draws = s.draws ∧ Advanced s t ∧ Frame s t [] (s.wordBytes .data (s.sp - 2))) ∧
    (∀ r : Gpr, ∃ t, exec (.pushReg r) s = .next t ∧
      t.wordAt .data (s.sp - 2) = s.gpr r ∧ t.sp = s.sp - 2 ∧ t.flags = s.flags ∧
      t.draws = s.draws ∧ Advanced s t ∧ Frame s t [] (s.wordBytes .data (s.sp - 2)))

/-- Where the word at sp can be read, pop puts it in the register and raises sp by 2, modulo 2^16; nothing else changes
(decisions D6, D30; logs 14, 23). From 41_stack.md sections 1, 2; 92_eei_decisions.md D6, D30. -/
def Obligations.PopRegister : Prop :=
  ∀ (s : State) (r : Gpr), s.canReadWord .data s.sp = true →
    ∃ t, exec (.pop r) s = .next t ∧ t.gpr r = s.wordAt .data s.sp ∧ t.sp = s.sp + 2 ∧ t.flags = s.flags ∧
      t.draws = s.draws ∧ Advanced s t ∧ Frame s t [r] []

/-- ls5r loads r5 from sp and the register from sp + 2; ss5r stores r5 at sp and the register at sp + 2; sp, the flags
and everything else stay (decisions D6, D30; logs 14, 23). From 41_stack.md sections 1, 2; 92_eei_decisions.md D6,
D30. -/
def Obligations.Ls5rSs5r : Prop :=
  ∀ (s : State) (r : Gpr),
    (s.canReadWord .data s.sp = true → s.canReadWord .data (s.sp + 2) = true →
      ∃ t, exec (.ls5r r) s = .next t ∧ t.gpr r = s.wordAt .data (s.sp + 2) ∧
        (r ≠ .r5 → t.gpr .r5 = s.wordAt .data s.sp) ∧ t.sp = s.sp ∧ t.flags = s.flags ∧ t.draws = s.draws ∧
        Advanced s t ∧ Frame s t [.r5, r] []) ∧
    (s.canWriteWord .data s.sp = true → s.canWriteWord .data (s.sp + 2) = true →
      ∃ t, exec (.ss5r r) s = .next t ∧ t.wordAt .data s.sp = s.gpr .r5 ∧
        t.wordAt .data (s.sp + 2) = s.gpr r ∧ t.sp = s.sp ∧ t.flags = s.flags ∧ t.draws = s.draws ∧
        Advanced s t ∧ Frame s t [] (s.wordBytes .data s.sp ++ s.wordBytes .data (s.sp + 2)))

/-- Where the addressed data word can be read, addm and subm put the sum or difference of the old destination and the
word in the destination, set the flags of that operation, and leave the word in r5; the address uses the old
registers (decision D22, log 18); nothing else changes. From 42_memory_rmw.md section 1; 92_eei_decisions.md D22. -/
def Obligations.AddmSubm : Prop :=
  ∀ (s : State) (d : Gpr) (b : Reg) (i : BitVec 7), s.canReadWord .data (s.eaImm b i) = true →
    (∃ t, exec (.addm d b i) s = .next t ∧
      t.gpr d = (addFlags (s.gpr d) (s.wordAt .data (s.eaImm b i)) false).1 ∧
      t.flags = (addFlags (s.gpr d) (s.wordAt .data (s.eaImm b i)) false).2 ∧
      (d ≠ .r5 → t.gpr .r5 = s.wordAt .data (s.eaImm b i)) ∧ t.sp = s.sp ∧ t.draws = s.draws ∧
      Advanced s t ∧ Frame s t [d, .r5] []) ∧
    (∃ t, exec (.subm d b i) s = .next t ∧
      t.gpr d = (subFlags (s.gpr d) (s.wordAt .data (s.eaImm b i)) false).1 ∧
      t.flags = (subFlags (s.gpr d) (s.wordAt .data (s.eaImm b i)) false).2 ∧
      (d ≠ .r5 → t.gpr .r5 = s.wordAt .data (s.eaImm b i)) ∧ t.sp = s.sp ∧ t.draws = s.draws ∧
      Advanced s t ∧ Frame s t [d, .r5] [])

/-- Where the addressed data word can be read and written, each of the eight instructions writes it back changed by +1,
-1, +2 or -2, leaves the old word in the register, sets Z and S from the new word, and changes nothing else;
nothing is said of C and O, which are unspecified (decisions D7, D30; logs 5, 15, 23). From 42_memory_rmw.md
section 2; 92_eei_decisions.md D7, D30. -/
def Obligations.IncmFamily : Prop :=
  ∀ (s : State) (r : Gpr) (k : BitVec 7) (i : Instr) (a delta : Word),
    (i, a, delta) ∈ ([(.incmInd r, s.gpr r, 1), (.decmInd r, s.gpr r, -1), (.dincmInd r, s.gpr r, 2),
      (.ddecmInd r, s.gpr r, -2), (.incmSp r k, s.sp + k.setWidth 16, 1), (.decmSp r k, s.sp + k.setWidth 16, -1),
      (.dincmSp r k, s.sp + k.setWidth 16, 2), (.ddecmSp r k, s.sp + k.setWidth 16, -2)] :
        List (Instr × Word × Word)) →
    s.canReadWord .data a = true → s.canWriteWord .data a = true →
    ∃ t, exec i s = .next t ∧ t.wordAt .data a = s.wordAt .data a + delta ∧ t.gpr r = s.wordAt .data a ∧
      (t.flags.z = true ↔ s.wordAt .data a + delta = 0) ∧ t.flags.s = (s.wordAt .data a + delta).msb ∧
      t.sp = s.sp ∧ Advanced s t ∧ Frame s t [r] (s.wordBytes .data a)

/-- li puts the 9-bit immediate, sign-extended, in the register; mov puts the source there, where pc reads as pc + 2
(decision D4, log 13); nothing else changes, flags included (decision D6, log 14). From 43_moves_flags.md (li,
mov); 92_eei_decisions.md D4, D6. -/
def Obligations.LiMov : Prop :=
  ∀ (s : State) (d : Gpr),
    (∀ n : BitVec 9, ∃ t, exec (.li d n) s = .next t ∧ WroteReg s t d (BitVec.ofInt 16 n.toInt) s.flags) ∧
    (∀ g : Gpr, ∃ t, exec (.mov d (.gpr g)) s = .next t ∧ WroteReg s t d (s.gpr g) s.flags) ∧
    (∃ t, exec (.mov d .sp) s = .next t ∧ WroteReg s t d s.sp s.flags) ∧
    (∃ t, exec (.mov d .pc) s = .next t ∧ WroteReg s t d (s.pc + 2) s.flags)

/-- m2f puts MASK, REQ, O, S, Z, C in bits 15:10, 9:4, 3, 2, 1, 0 of r2 and changes nothing else; mf2 writes MASK and
the arithmetic flags from those bits, keeps a request exactly where its bit is 1, never sets one, and leaves r2, IE
and everything else (layout: decisions D3 and D25, log 24). From 43_moves_flags.md (m2f, mf2); 10_state.md section
3 (layout); 92_eei_decisions.md D3, D25. -/
def Obligations.FlagsRegisterMoves : Prop :=
  ∀ s : State,
    (∃ t, exec .m2f s = .next t ∧ WroteReg s t .r2 (t.gpr .r2) s.flags ∧
      (∀ k, k < 6 → (t.gpr .r2).getLsbD (10 + k) = s.mask.getLsbD k ∧
        (t.gpr .r2).getLsbD (4 + k) = s.req.getLsbD k) ∧
      (t.gpr .r2).getLsbD 3 = s.flags.o ∧ (t.gpr .r2).getLsbD 2 = s.flags.s ∧
      (t.gpr .r2).getLsbD 1 = s.flags.z ∧ (t.gpr .r2).getLsbD 0 = s.flags.c) ∧
    (∃ t, exec .mf2 s = .next t ∧
      (∀ k, k < 6 → t.mask.getLsbD k = (s.gpr .r2).getLsbD (10 + k) ∧
        t.req.getLsbD k = (s.req.getLsbD k && (s.gpr .r2).getLsbD (4 + k))) ∧
      t.flags.o = (s.gpr .r2).getLsbD 3 ∧ t.flags.s = (s.gpr .r2).getLsbD 2 ∧
      t.flags.z = (s.gpr .r2).getLsbD 1 ∧ t.flags.c = (s.gpr .r2).getLsbD 0 ∧
      t.ie = s.ie ∧ t.sels = s.sels ∧ t.sp = s.sp ∧ t.platform = s.platform ∧ t.irqEvents = s.irqEvents ∧
      t.busLog = s.busLog ∧ t.draws = s.draws ∧ Advanced s t ∧ SameGprs s t [] ∧ SameBytes s t [])

/-- Every word 1111110011110xxx decodes to stc: that xxx is ignored is decision D10 (log 25). stc sets C, changes no
register and no memory; the statement says nothing of Z, S and O, which are unspecified (free values, log 5). From
43_moves_flags.md (stc); 30_encoding.md section 3 (ignored bits); 92_eei_decisions.md D10. -/
def Obligations.SetCarry : Prop :=
  (∀ x : BitVec 3, decodeWord (0b1111110011110#13 ++ x) = .stc) ∧
    ∀ s : State, ∃ t, exec .stc s = .next t ∧ t.flags.c = true ∧ t.sp = s.sp ∧ Advanced s t ∧ Frame s t [] []

/-- Every word of their encodings decodes to zxt, sxt, cpl whatever III is: that III is ignored is decision D10 (log
25). zxt clears bits 15:8, sxt sets them to bit 7, cpl inverts every bit; flags and everything else stay. From
44_alu.md section 2; 30_encoding.md section 3 (ignored bits); 92_eei_decisions.md D10. -/
def Obligations.ZxtSxtCpl : Prop :=
  (∀ (r : Gpr) (x : BitVec 3), decodeWord (0b111110100#9 ++ r.bits ++ 0b0#1 ++ x) = .zxt r ∧
      decodeWord (0b111110100#9 ++ r.bits ++ 0b1#1 ++ x) = .sxt r ∧
      decodeWord (0b111111100#9 ++ r.bits ++ 0b0#1 ++ x) = .cpl r) ∧
    ∀ (s : State) (r : Gpr),
      (∃ t, exec (.zxt r) s = .next t ∧ WroteReg s t r (s.gpr r &&& 0x00FF) s.flags) ∧
      (∃ t, exec (.sxt r) s = .next t ∧ WroteReg s t r (t.gpr r) s.flags ∧
        ∀ k, k < 16 → (t.gpr r).getLsbD k = (s.gpr r).getLsbD (min k 7)) ∧
      (∃ t, exec (.cpl r) s = .next t ∧ WroteReg s t r (~~~(s.gpr r)) s.flags)

/-- Every word of their encodings decodes to neg, adcz whatever III and imm6 are: that they are ignored is decision D10
(log 25). neg puts 0 - r in the register with the flags of SubFlags(0, r, 0), so C is 0 only for 0 and O is 1 only
for 0x8000; adcz puts r + C there with the flags of AddFlags(r, 0, C); nothing else changes. From 44_alu.md section
2; 30_encoding.md section 3 (ignored bits); 92_eei_decisions.md D10. -/
def Obligations.NegAdcz : Prop :=
  (∀ (r : Gpr) (x : BitVec 3) (y : BitVec 6), decodeWord (0b111111100#9 ++ r.bits ++ 0b1#1 ++ x) = .neg r ∧
      decodeWord (0b001#3 ++ r.bits ++ 0b111#3 ++ y ++ 0b1#1) = .adcz r) ∧
    ∀ (s : State) (r : Gpr),
      (∃ t, exec (.neg r) s = .next t ∧ WroteReg s t r (-(s.gpr r)) (subFlags 0 (s.gpr r) false).2 ∧
        t.flags.c = decide (s.gpr r ≠ 0) ∧ t.flags.o = decide (s.gpr r = 0x8000)) ∧
      (∃ t, exec (.adcz r) s = .next t ∧
        WroteReg s t r (s.gpr r + if s.flags.c then 1 else 0) (addFlags (s.gpr r) 0 s.flags.c).2)

/-- Every word of their encodings decodes to and, or, xor with imm7; each combines the register with the zero-extended
immediate and sets LogicFlags of the result; nothing else changes. Cites R188, R189, R190. -/
def Obligations.LogicImm : Prop :=
  (∀ (r : Gpr) (i : BitVec 7), decodeWord (0b000110#6 ++ r.bits ++ i) = .andImm r i ∧
      decodeWord (0b000111#6 ++ r.bits ++ i) = .orImm r i ∧
      decodeWord (0b010110#6 ++ r.bits ++ i) = .xorImm r i) ∧
    ∀ (s : State) (r : Gpr) (i : BitVec 7),
      (∃ t, exec (.andImm r i) s = .next t ∧
        WroteReg s t r (s.gpr r &&& BitVec.ofNat 16 i.toNat) (logicFlags (s.gpr r &&& BitVec.ofNat 16 i.toNat)) ∧
        (t.gpr r).extractLsb' 7 9 = 0) ∧
      (∃ t, exec (.orImm r i) s = .next t ∧
        WroteReg s t r (s.gpr r ||| BitVec.ofNat 16 i.toNat) (logicFlags (s.gpr r ||| BitVec.ofNat 16 i.toNat))) ∧
      (∃ t, exec (.xorImm r i) s = .next t ∧
        WroteReg s t r (s.gpr r ^^^ BitVec.ofNat 16 i.toNat) (logicFlags (s.gpr r ^^^ BitVec.ofNat 16 i.toNat)))

/-- Every word of their encodings decodes to cmp, add; cmp sets the flags of subtracting the sign-extended immediate
and writes no register; add puts the sum of the source register (sp, or pc read as pc + 2, included) and the
sign-extended immediate in r0..r5 with the flags of that addition; nothing else changes. That add reads pc as pc +
2 is decision D4 (log 13). From 44_alu.md section 3; 44_alu.md section 1 (pc and sp as sources);
92_eei_decisions.md D4. -/
def Obligations.CmpAddImm : Prop :=
  (∀ (r d : Gpr) (b : Reg) (i : BitVec 7), decodeWord (0b010111#6 ++ r.bits ++ i) = .cmpImm r i ∧
      decodeWord (0b100#3 ++ d.bits ++ b.bits ++ i) = .addImm d b i) ∧
    ∀ (s : State) (i : BitVec 7),
      (∀ r, ∃ t, exec (.cmpImm r i) s = .next t ∧
        WroteFlags s t (subFlags (s.gpr r) (BitVec.ofInt 16 i.toInt) false).2) ∧
      (∀ d b, ∃ t, exec (.addImm d b i) s = .next t ∧
        WroteReg s t d (s.src b + BitVec.ofInt 16 i.toInt)
          (addFlags (s.src b) (BitVec.ofInt 16 i.toInt) false).2)

/-- Every word 101 rrr 1 nnnnnnnnn with rrr in r0..r5 or sp is addu; it adds imm9 times 128 modulo 2^16; with r0..r5 it
sets the flags of that addition, with sp (which is even) it preserves them; nothing else changes. Cites R202. -/
def Obligations.AddUpper : Prop :=
  (∀ (d : Reg) (n : BitVec 9), d ≠ .pc → decodeWord (0b101#3 ++ d.bits ++ 0b1#1 ++ n) = .addu d n) ∧
    ∀ (s : State) (n : BitVec 9),
      (∀ d, ∃ t, exec (.addu (.gpr d) n) s = .next t ∧
        WroteReg s t d (s.gpr d + BitVec.ofNat 16 (n.toNat * 128))
          (addFlags (s.gpr d) (BitVec.ofNat 16 (n.toNat * 128)) false).2) ∧
      (s.sp.getLsbD 0 = false →
        ∃ t, exec (.addu .sp n) s = .next t ∧ WroteSp s t (s.sp + BitVec.ofNat 16 (n.toNat * 128)))

/-- add sp, RRR, simm7 puts the sum with the sign-extended immediate in sp with bit 0 dropped, flags preserved; last
raises an even sp by 2 times imm6 and goes to r5 with bit 0 dropped; nothing else changes (decision D5, log 12).
From 44_alu.md section 3 (add sp); 47_control.md section 4 (last); 92_eei_decisions.md D5. -/
def Obligations.AddSpLast : Prop :=
  ∀ s : State,
    (∀ (b : Reg) (i : BitVec 7), ∃ t, exec (.addSp b i) s = .next t ∧
      WroteSp s t ((s.src b + BitVec.ofInt 16 i.toInt) &&& 0xFFFE)) ∧
    (∀ k : BitVec 6, s.sp.getLsbD 0 = false →
      ∃ t, exec (.last k) s = .next t ∧ t.sp = s.sp + BitVec.ofNat 16 (2 * k.toNat) ∧
        t.pc = s.gpr .r5 &&& 0xFFFE ∧ t.flags = s.flags ∧ t.draws = s.draws ∧ Frame s t [] [])

/-- Each puts the exact sum or difference modulo 2^16, the carry or borrow included for adc and sbb, in the first
register and sets the flags of AddFlags or SubFlags; cmp only sets the flags; the source may be sp, or pc read as
pc + 2 (decision D4, log 13); nothing else changes. From 44_alu.md section 4; 44_alu.md section 1 (pc and sp as
sources); 92_eei_decisions.md D4. -/
def Obligations.AddSubReg : Prop :=
  ∀ (s : State) (r : Gpr) (q : Reg),
    (∃ t, exec (.addReg r q) s = .next t ∧ WroteReg s t r (s.gpr r + s.src q) (addFlags (s.gpr r) (s.src q) false).2) ∧
    (∃ t, exec (.adcReg r q) s = .next t ∧
      WroteReg s t r (s.gpr r + s.src q + if s.flags.c then 1 else 0)
        (addFlags (s.gpr r) (s.src q) s.flags.c).2) ∧
    (∃ t, exec (.subReg r q) s = .next t ∧ WroteReg s t r (s.gpr r - s.src q) (subFlags (s.gpr r) (s.src q) false).2) ∧
    (∃ t, exec (.sbbReg r q) s = .next t ∧
      WroteReg s t r (s.gpr r - s.src q - if s.flags.c then 1 else 0)
        (subFlags (s.gpr r) (s.src q) s.flags.c).2) ∧
    (∃ t, exec (.cmpReg r q) s = .next t ∧ WroteFlags s t (subFlags (s.gpr r) (s.src q) false).2)

/-- Each combines the first register with the source (sp, or pc read as pc + 2 by decision D4, log 13, included), sets
LogicFlags of the result, and changes nothing else. From 44_alu.md section 4; 92_eei_decisions.md D4. -/
def Obligations.LogicReg : Prop :=
  ∀ (s : State) (r : Gpr) (q : Reg),
    (∃ t, exec (.andReg r q) s = .next t ∧ WroteReg s t r (s.gpr r &&& s.src q) (logicFlags (s.gpr r &&& s.src q))) ∧
    (∃ t, exec (.orReg r q) s = .next t ∧ WroteReg s t r (s.gpr r ||| s.src q) (logicFlags (s.gpr r ||| s.src q))) ∧
    (∃ t, exec (.xorReg r q) s = .next t ∧ WroteReg s t r (s.gpr r ^^^ s.src q) (logicFlags (s.gpr r ^^^ s.src q)))

/-- Each of sr, sl, asr, rl, rr with a register count applies its operation with the count modulo 16, sets LogicFlags
of the result and changes nothing else; the count register may be sp, or pc read as pc + 2 (decision D4, log 13).
From 45_shifts.md sections 1, 2; 92_eei_decisions.md D4. -/
def Obligations.ShiftReg : Prop :=
  ∀ (s : State) (r : Gpr) (q : Reg) (i : Instr) (f : Word → Nat → Word),
    (i, f) ∈ ([(.srReg r q, shiftRight), (.slReg r q, shiftLeft), (.asrReg r q, shiftArith), (.rlReg r q, rotateLeft),
      (.rrReg r q, rotateRight)] : List (Instr × (Word → Nat → Word))) →
    ∃ t, exec i s = .next t ∧
      WroteReg s t r (f (s.gpr r) ((s.src q).toNat % 16)) (logicFlags (f (s.gpr r) ((s.src q).toNat % 16)))

/-- Every word of their encodings with a count the table does not reserve decodes to sr, sl, asr, rl; each applies its
operation with that count, sets LogicFlags of the result and changes nothing else; rl by 16 - k rotates right by k.
Cites R216, R217, R218, R219. -/
def Obligations.ShiftImm : Prop :=
  (∀ (r : Gpr) (k : BitVec 4), k ≠ 0 → decodeWord (0b111110101#9 ++ r.bits ++ k) = .srImm r k ∧
      (k ≠ 1 → decodeWord (0b111111101#9 ++ r.bits ++ k) = .slImm r k) ∧
      decodeWord (0b111#3 ++ r.bits ++ 0b101110#6 ++ k) = .asrImm r k ∧
      decodeWord (0b111#3 ++ r.bits ++ 0b101111#6 ++ k) = .rlImm r k) ∧
    ∀ (s : State) (r : Gpr) (k : BitVec 4),
      (∃ t, exec (.srImm r k) s = .next t ∧
        WroteReg s t r (shiftRight (s.gpr r) k.toNat) (logicFlags (shiftRight (s.gpr r) k.toNat))) ∧
      (∃ t, exec (.slImm r k) s = .next t ∧
        WroteReg s t r (shiftLeft (s.gpr r) k.toNat) (logicFlags (shiftLeft (s.gpr r) k.toNat))) ∧
      (∃ t, exec (.asrImm r k) s = .next t ∧
        WroteReg s t r (shiftArith (s.gpr r) k.toNat) (logicFlags (shiftArith (s.gpr r) k.toNat))) ∧
      (∃ t, exec (.rlImm r k) s = .next t ∧
        WroteReg s t r (rotateLeft (s.gpr r) k.toNat) (logicFlags (rotateLeft (s.gpr r) k.toNat)) ∧
        (k ≠ 0 → t.gpr r = rotateRight (s.gpr r) (16 - k.toNat)))

/-- Every word 110 rrr 1 nnnnnnnnn with rrr in r0..r5 is lurpc; it puts pc + 2 + 128 times imm9, modulo 2^16, in the
register; flags and everything else stay. Cites R230. -/
def Obligations.LoadUpperPc : Prop :=
  (∀ (d : Gpr) (n : BitVec 9), decodeWord (0b110#3 ++ d.bits ++ 0b1#1 ++ n) = .lurpc d n) ∧
    ∀ (s : State) (d : Gpr) (n : BitVec 9), ∃ t, exec (.lurpc d n) s = .next t ∧
      WroteReg s t d (BitVec.ofNat 16 (s.pc.toNat + 2 + n.toNat * 128)) s.flags

/-- sac adds the second register times 2^imm4, truncated to 16 bits before the addition (decision D18, log 17), to the
first, sets the flags of that addition, and changes nothing else. From 46_lurpc_muldiv.md section 2;
92_eei_decisions.md D18. -/
def Obligations.ShiftAndAccumulate : Prop :=
  ∀ (s : State) (d p : Gpr) (k : BitVec 4), ∃ t, exec (.sac d p k) s = .next t ∧
    WroteReg s t d (s.gpr d + BitVec.ofNat 16 ((s.gpr p).toNat * 2 ^ k.toNat))
      (addFlags (s.gpr d) (BitVec.ofNat 16 ((s.gpr p).toNat * 2 ^ k.toNat)) false).2

/-- Every word of their encodings decodes to the helper whatever III is: that III is ignored is decision D10 (log 25).
add22adc33 doubles the 32-bit r3:r2 and leaves the flags of the addition into r3 with the carry out of r2; cadd24
adds r4 to r2 if C is set and 0 otherwise, with the flags of that addition; cadd24adc3z does the same and adds the
carry to r3, with the flags of that last addition. csub34: if r3 >= r4 unsigned, r3 becomes r3 - r4 and C = 0,
otherwise r3 is unchanged and C = 1, and the flags are those of the final addition of r4 (after a borrow) or 0 to
the difference. Nothing else changes. From 46_lurpc_muldiv.md section 3; 30_encoding.md section 3 (ignored bits);
92_eei_decisions.md D10. -/
def Obligations.MultiplyDivideHelpers : Prop :=
  ((∀ x : BitVec 3, decodeWord (0b1111111011100#13 ++ x) = .add22adc33 ∧
        decodeWord (0b1111111011101#13 ++ x) = .cadd24 ∧ decodeWord (0b1111111011110#13 ++ x) = .cadd24adc3z) ∧
      ∀ s : State,
        (∃ t, exec .add22adc33 s = .next t ∧ t.gpr .r3 ++ t.gpr .r2 = (s.gpr .r3 ++ s.gpr .r2) + (s.gpr .r3 ++ s.gpr .r2) ∧
          t.flags = (addFlags (s.gpr .r3) (s.gpr .r3) (addFlags (s.gpr .r2) (s.gpr .r2) false).2.c).2 ∧
          t.flags.c = (s.gpr .r3).msb ∧ t.sp = s.sp ∧ t.draws = s.draws ∧ Advanced s t ∧ Frame s t [.r2, .r3] []) ∧
        (∃ t, exec .cadd24 s = .next t ∧
          WroteReg s t .r2 (s.gpr .r2 + if s.flags.c then s.gpr .r4 else 0)
            (addFlags (s.gpr .r2) (if s.flags.c then s.gpr .r4 else 0) false).2) ∧
        (∃ t, exec .cadd24adc3z s = .next t ∧
          t.gpr .r3 ++ t.gpr .r2 = (s.gpr .r3 ++ s.gpr .r2) + (if s.flags.c then (s.gpr .r4).setWidth 32 else 0) ∧
          t.flags = (addFlags (s.gpr .r3) 0
            (addFlags (s.gpr .r2) (if s.flags.c then s.gpr .r4 else 0) false).2.c).2 ∧
          t.sp = s.sp ∧ t.draws = s.draws ∧ Advanced s t ∧ Frame s t [.r2, .r3] [])) ∧
    (∀ x : BitVec 3, decodeWord (0b1111111011111#13 ++ x) = .csub34) ∧
      ∀ s : State, ∃ t, exec .csub34 s = .next t ∧
        WroteReg s t .r3 (if (s.gpr .r4).toNat ≤ (s.gpr .r3).toNat then s.gpr .r3 - s.gpr .r4 else s.gpr .r3)
          (addFlags (s.gpr .r3 - s.gpr .r4) (if (s.gpr .r3).toNat < (s.gpr .r4).toNat then s.gpr .r4 else 0) false).2 ∧
        t.flags.c = decide ((s.gpr .r3).toNat < (s.gpr .r4).toNat)

/-- Every word 101 110 0 jjjjjjjj 1 is j; from an even pc it sets pc to pc + 2 + 2 times the sign-extended distance,
modulo 2^16, and changes nothing else; j 0 changes no state but pc. Cites R241, R242. -/
def Obligations.Jump : Prop :=
  (∀ k : BitVec 8, decodeWord (0b1011100#7 ++ k ++ 0b1#1) = .j k) ∧
    ∀ s : State, s.pc.getLsbD 0 = false →
      (∀ k : BitVec 8, ∃ t, exec (.j k) s = .next t ∧ WentTo s t (BitVec.ofInt 16 (s.pc.toNat + 2 + 2 * k.toInt))) ∧
      exec Sys2Proof.Asm.nop s = .next { s with pc := s.pc + 2 }

/-- From an even pc, each conditional jump goes to pc + 2 + 2 times its sign-extended distance if its condition on C,
Z, S, O holds and to pc + 2 otherwise, and changes nothing else. The formulas of the conditions are decision D19
(log 17). From 47_control.md section 3; 92_eei_decisions.md D19. -/
def Obligations.ConditionalJumps : Prop :=
  ∀ (s : State) (d : BitVec 7) (i : Instr) (taken : Bool), s.pc.getLsbD 0 = false →
    (i, taken) ∈ ([(.jc d, s.flags.c), (.jz d, s.flags.z), (.js d, s.flags.s), (.jleu d, s.flags.c || s.flags.z),
      (.jl d, s.flags.s != s.flags.o), (.jle d, s.flags.z || s.flags.s != s.flags.o), (.jo d, s.flags.o),
      (.jno d, !s.flags.o), (.jnc d, !s.flags.c), (.jnz d, !s.flags.z), (.jns d, !s.flags.s),
      (.jgu d, !(s.flags.c || s.flags.z)), (.jge d, s.flags.s == s.flags.o),
      (.jg d, !s.flags.z && s.flags.s == s.flags.o)] : List (Instr × Bool)) →
    ∃ t, exec i s = .next t ∧
      WentTo s t (if taken then BitVec.ofInt 16 (s.pc.toNat + 2 + 2 * d.toInt) else s.pc + 2)

/-- Every word 110 11 eeeeeeeeeee is jal; from an even pc it puts pc + 2 in r5, sets pc to pc + 2 + 2 times the
sign-extended distance, modulo 2^16, and changes nothing else. Cites R258. -/
def Obligations.JumpAndLink : Prop :=
  (∀ k : BitVec 11, decodeWord (0b11011#5 ++ k) = .jal k) ∧
    ∀ (s : State) (k : BitVec 11), s.pc.getLsbD 0 = false →
      ∃ t, exec (.jal k) s = .next t ∧ WentToLinking s t (BitVec.ofInt 16 (s.pc.toNat + 2 + 2 * k.toInt))

/-- add pc with an even immediate goes to the sum with bit 0 dropped; with an odd immediate it goes to the sum with the
immediate minus 1, bit 0 dropped, and puts pc + 2 in r5, the target using the old register; flags and everything
else stay (decisions D5, D22; logs 12, 18). From 47_control.md section 4; 92_eei_decisions.md D5, D22. -/
def Obligations.IndirectJumps : Prop :=
  ∀ (s : State) (b : Gpr) (i : BitVec 7),
    (i.getLsbD 0 = false → ∃ t, exec (.addPc b i) s = .next t ∧
      WentTo s t ((s.gpr b + BitVec.ofInt 16 i.toInt) &&& 0xFFFE)) ∧
    (i.getLsbD 0 = true → ∃ t, exec (.addPcLink b i) s = .next t ∧
      WentToLinking s t ((s.gpr b + BitVec.ofInt 16 (i.toInt - 1)) &&& 0xFFFE))

/-- Where the word below sp is RAM, swi puts its own address with IE in bit 0 at data address sp - 2 (modulo 2^16),
clears IE, and goes to 2 times the sign-extended number; sp, r0..r5, flags, MASK, REQ, selectors and every other
byte stay (decisions D6, D29; logs 14, 23). From 48_system.md section 1; 60_exceptions.md section 4;
92_eei_decisions.md D6, D29. -/
def Obligations.SoftwareInterrupt : Prop :=
  ∀ (s : State) (k : BitVec 6), s.canWriteWord .data (s.sp - 2) = true →
    ∃ t, exec (.swi k) s = .next t ∧
      t.wordAt .data (s.sp - 2) = (s.pc &&& 0xFFFE) ||| (if s.ie then 1 else 0) ∧ t.ie = false ∧
      t.pc = BitVec.ofInt 16 (2 * k.toInt) ∧ t.mask = s.mask ∧ t.req = s.req ∧ t.irqEvents = s.irqEvents ∧
      SameProgramState s t ∧ SameBytes s t (s.wordBytes .data (s.sp - 2))

/-- Where the word below sp can be read, reti sets IE to its bit 0 and pc to the rest; sp, r0..r5, flags, MASK, REQ,
selectors and memory stay (decisions D6, D29; logs 14, 23). From 48_system.md section 1; 60_exceptions.md section
5; 92_eei_decisions.md D6, D29. -/
def Obligations.InterruptReturn : Prop :=
  ∀ s : State, s.canReadWord .data (s.sp - 2) = true →
    ∃ t, exec .reti s = .next t ∧ t.ie = (s.wordAt .data (s.sp - 2)).getLsbD 0 ∧
      t.pc = s.wordAt .data (s.sp - 2) &&& 0xFFFE ∧ t.mask = s.mask ∧ t.req = s.req ∧ t.irqEvents = s.irqEvents ∧
      SameProgramState s t ∧ SameBytes s t []

/-- From an even pc, where the word below sp is RAM, an interrupt entry at any vector completes, reti at once after it
completes, and the state then differs from the first only in the two bytes below sp (decision D29, log 23). From
60_exceptions.md sections 4, 5; 92_eei_decisions.md D29. -/
def Obligations.EntryThenReturn : Prop :=
  ∀ (s : State) (vector : Word), s.pc.getLsbD 0 = false → s.canWriteWord .data (s.sp - 2) = true →
    ∃ t u, s.interruptEntry vector s.pc = .next t ∧ exec .reti t = .next u ∧
      u.pc = s.pc ∧ u.ie = s.ie ∧ u.mask = s.mask ∧ u.req = s.req ∧ u.irqEvents = s.irqEvents ∧
      SameProgramState s u ∧ SameBytes s u (s.wordBytes .data (s.sp - 2))

/-- Every word of their encodings decodes to di, ei whatever III is: that III is ignored is decision D10 (log 25). di
clears IE, ei sets it, and nothing else changes but pc; that the flags stay is decision D6 (log 14). From
48_system.md section 2 (di, ei); 30_encoding.md section 3 (ignored bits); 92_eei_decisions.md D6, D10. -/
def Obligations.DisableEnable : Prop :=
  (∀ x : BitVec 3, decodeWord (0b1111101011100#13 ++ x) = .di ∧ decodeWord (0b1111101011101#13 ++ x) = .ei) ∧
    ∀ (s : State) (i : Instr) (b : Bool), (i, b) ∈ ([(.di, false), (.ei, true)] : List (Instr × Bool)) →
      ∃ t, exec i s = .next t ∧ t.ie = b ∧ t.mask = s.mask ∧ t.req = s.req ∧ t.irqEvents = s.irqEvents ∧
        Advanced s t ∧ SameProgramState s t ∧ SameBytes s t []

/-- With a number 0..7 in the number register, msr puts the low byte of the value in that selector and mrs puts it,
zero-extended, in the destination; no other selector, register, flag or byte changes. With a number above 7 both
stop (decisions D6, D12; logs 10, 14). From 48_system.md section 3; 30_encoding.md section 5 (selector numbers);
92_eei_decisions.md D6, D12. -/
def Obligations.SelectorAccess : Prop :=
  ∀ (s : State) (n d : Gpr) (q : Reg),
    (∀ k : Fin 8, (s.gpr n).toNat = k.val →
      (∃ t, exec (.msr n q) s = .next t ∧
        (∀ j, t.sels.get j = if j = k then (s.src q).extractLsb' 0 8 else s.sels.get j) ∧
        t.sp = s.sp ∧ t.flags = s.flags ∧ t.draws = s.draws ∧ t.mask = s.mask ∧ t.req = s.req ∧ t.ie = s.ie ∧
        t.platform = s.platform ∧ t.irqEvents = s.irqEvents ∧ t.busLog = s.busLog ∧ Advanced s t ∧ SameGprs s t [] ∧ SameBytes s t []) ∧
      (∃ t, exec (.mrs d n) s = .next t ∧ WroteReg s t d (BitVec.ofNat 16 (s.sels.get k).toNat) s.flags)) ∧
    (8 ≤ (s.gpr n).toNat → exec (.msr n q) s = .fault (.reservedSelector (s.gpr n)) ∧
      exec (.mrs d n) s = .fault (.reservedSelector (s.gpr n)))

/-- With ISA_VARIANT = mini a word runs as what the mini decoder reads from it, in a step as well. What it shares with
the full ISA runs as there. The loads and stores with an immediate add it signed to every base, sp included; lw
into sp and pc drops bit 0, into pc it is a jump; decs changes the data word at sp plus twice its signed immediate
by -1, with Z and S of the new word. Words the mini reserves decode to themselves as reserved (those of Q47 to Q50
among them) and are refused. Words the spec prints decode as it says (decisions D2, D5, D8, D31; logs 8, 11, 12,
25). From 49_mini.md sections 1 to 4; 92_eei_decisions.md D2, D5, D8, D31. -/
def Obligations.MiniDifferences : Prop :=
  (∀ (s : State) (w : Word), execWord .mini w s = execMini (decodeMini w) s) ∧
    (∀ s : State, s.latchIrq.irqPending = false → s.canReadWord .code s.pc = true →
      stepWith .mini s = execMini (decodeMini (s.wordAt .code s.pc)) s.latchIrq) ∧
    (∀ s : State, s.latchIrq.irqPending = true → stepWith .mini s = step s) ∧
    (∀ (i : Instr) (s : State), execMini (.shared i) s = exec i s) ∧
    (∀ (s : State) (b : Reg) (i : BitVec 7),
      (∀ d, s.readable (s.translate (spaceOf b) (s.src b + BitVec.ofInt 16 i.toInt)) = true →
        ∃ t, execMini (.lb d b i) s = .next t ∧ WroteReg s t d
          ((s.byteAt (s.translate (spaceOf b) (s.src b + BitVec.ofInt 16 i.toInt))).setWidth 16) s.flags) ∧
      (∀ d, s.canReadWord (spaceOf b) (s.src b + BitVec.ofInt 16 i.toInt) = true →
        ∃ t, execMini (.lw (.gpr d) b i) s = .next t ∧
          WroteReg s t d (s.wordAt (spaceOf b) (s.src b + BitVec.ofInt 16 i.toInt)) s.flags) ∧
      (s.canReadWord (spaceOf b) (s.src b + BitVec.ofInt 16 i.toInt) = true →
        (∃ t, execMini (.lw .sp b i) s = .next t ∧
          WroteSp s t (s.wordAt (spaceOf b) (s.src b + BitVec.ofInt 16 i.toInt) &&& 0xFFFE)) ∧
        ∃ t, execMini (.lw .pc b i) s = .next t ∧
          WentTo s t (s.wordAt (spaceOf b) (s.src b + BitVec.ofInt 16 i.toInt) &&& 0xFFFE)) ∧
      (∀ r, s.writable (s.translate (spaceOf b) (s.src b + BitVec.ofInt 16 i.toInt)) = true →
        ∃ t, execMini (.sb r b i) s = .next t ∧
          StoredByte s t (spaceOf b) (s.src b + BitVec.ofInt 16 i.toInt) ((s.gpr r).extractLsb' 0 8)) ∧
      (∀ r, s.canWriteWord (spaceOf b) (s.src b + BitVec.ofInt 16 i.toInt) = true →
        ∃ t, execMini (.sw r b i) s = .next t ∧
          StoredWord s t (spaceOf b) (s.src b + BitVec.ofInt 16 i.toInt) (s.x r))) ∧
    (∀ (s : State) (r : Gpr) (k : BitVec 6) (a : Word), a = s.sp + BitVec.ofInt 16 (2 * k.toInt) →
      s.canReadWord .data a = true → s.canWriteWord .data a = true →
      ∃ t, execMini (.decs r k) s = .next t ∧ t.wordAt .data a = s.wordAt .data a - 1 ∧ t.gpr r = s.wordAt .data a ∧
        (t.flags.z = true ↔ s.wordAt .data a - 1 = 0) ∧ t.flags.s = (s.wordAt .data a - 1).msb ∧
        t.sp = s.sp ∧ Advanced s t ∧ Frame s t [r] (s.wordBytes .data a)) ∧
    (∀ (s : State) (w v : Word), decodeMini w = .reserved v →
      v = w ∧ execWord .mini w s = .refused (.reservedEncoding w)) ∧
    (∀ w ∈ ([0x1B01, 0x9F00, 0xF820, 0xE370] : List Word), decodeMini w = .reserved w) ∧
    decodeMini 0x237E = .lw (.gpr .r0) .sp 126 ∧ decodeMini 0xBCFE = .decs .r1 63 ∧
    decodeMini 0x6482 = .sw (.gpr .r1) (.gpr .r1) 2 ∧ decodeMini 0xFF09 = .shared (.jnz 124)

/-- For every 16-bit v, hi(v) times 128 plus lo(v) is v modulo 2^16, lo(v) lies in -64..63, and the 9-bit field li
takes for lo(v) sign-extends to lo(v). From 30_encoding.md section 6 (lo and hi, idioms). -/
def Obligations.ConstantFromHalves : Prop :=
  ∀ v : Word,
    BitVec.ofNat 16 ((Sys2Proof.Asm.hi v).toNat * 128) + Sys2Proof.Asm.lo v = v ∧
    -64 ≤ (Sys2Proof.Asm.lo v).toInt ∧ (Sys2Proof.Asm.lo v).toInt ≤ 63 ∧
    BitVec.ofInt 16 (Sys2Proof.Asm.lo9 v).toInt = Sys2Proof.Asm.lo v ∧
    BitVec.ofInt 16 (Sys2Proof.Asm.lo7 v).toInt = Sys2Proof.Asm.lo v
end

