-- ==== Sys2Proof/Laws/State.lean ====
section
/-! SUPPORT. The fields of a state after each update, and what reads those fields. -/

namespace Sys2Proof.Machine

/-! ### `setGpr` -/

@[simp] theorem State.setGpr_regs (s : State) (g : Gpr) (v : Word) : (s.setGpr g v).regs = s.regs.set g v := rfl
@[simp] theorem State.setGpr_sp (s : State) (g : Gpr) (v : Word) : (s.setGpr g v).sp = s.sp := rfl
@[simp] theorem State.setGpr_pc (s : State) (g : Gpr) (v : Word) : (s.setGpr g v).pc = s.pc := rfl
@[simp] theorem State.setGpr_flags (s : State) (g : Gpr) (v : Word) : (s.setGpr g v).flags = s.flags := rfl
@[simp] theorem State.setGpr_mask (s : State) (g : Gpr) (v : Word) : (s.setGpr g v).mask = s.mask := rfl
@[simp] theorem State.setGpr_req (s : State) (g : Gpr) (v : Word) : (s.setGpr g v).req = s.req := rfl
@[simp] theorem State.setGpr_ie (s : State) (g : Gpr) (v : Word) : (s.setGpr g v).ie = s.ie := rfl
@[simp] theorem State.setGpr_sels (s : State) (g : Gpr) (v : Word) : (s.setGpr g v).sels = s.sels := rfl
@[simp] theorem State.setGpr_mem (s : State) (g : Gpr) (v : Word) : (s.setGpr g v).mem = s.mem := rfl
@[simp] theorem State.setGpr_platform (s : State) (g : Gpr) (v : Word) : (s.setGpr g v).platform = s.platform := rfl
@[simp] theorem State.setGpr_irqEvents (s : State) (g : Gpr) (v : Word) : (s.setGpr g v).irqEvents = s.irqEvents := rfl
@[simp] theorem State.setGpr_busLog (s : State) (g : Gpr) (v : Word) : (s.setGpr g v).busLog = s.busLog := rfl
@[simp] theorem State.setGpr_draws (s : State) (g : Gpr) (v : Word) : (s.setGpr g v).draws = s.draws := rfl
@[simp] theorem State.setGpr_npc (s : State) (g : Gpr) (v : Word) : (s.setGpr g v).npc = s.npc := rfl
@[simp] theorem State.setGpr_byteAt (s : State) (g : Gpr) (v : Word) (p : Phys) : (s.setGpr g v).byteAt p = s.byteAt p := rfl
@[simp] theorem State.setGpr_translate (s : State) (g : Gpr) (v : Word) (k : Space) (a : Word) :
    (s.setGpr g v).translate k a = s.translate k a := rfl
@[simp] theorem State.setGpr_readable (s : State) (g : Gpr) (v : Word) (p : Phys) : (s.setGpr g v).readable p = s.readable p := rfl
@[simp] theorem State.setGpr_writable (s : State) (g : Gpr) (v : Word) (p : Phys) : (s.setGpr g v).writable p = s.writable p := rfl

/-! ### `setSp` -/

@[simp] theorem State.setSp_regs (s : State) (v : Word) : (s.setSp v).regs = s.regs := rfl
@[simp] theorem State.setSp_sp (s : State) (v : Word) : (s.setSp v).sp = dropBit0 v := rfl
@[simp] theorem State.setSp_pc (s : State) (v : Word) : (s.setSp v).pc = s.pc := rfl
@[simp] theorem State.setSp_flags (s : State) (v : Word) : (s.setSp v).flags = s.flags := rfl
@[simp] theorem State.setSp_mask (s : State) (v : Word) : (s.setSp v).mask = s.mask := rfl
@[simp] theorem State.setSp_req (s : State) (v : Word) : (s.setSp v).req = s.req := rfl
@[simp] theorem State.setSp_ie (s : State) (v : Word) : (s.setSp v).ie = s.ie := rfl
@[simp] theorem State.setSp_sels (s : State) (v : Word) : (s.setSp v).sels = s.sels := rfl
@[simp] theorem State.setSp_mem (s : State) (v : Word) : (s.setSp v).mem = s.mem := rfl
@[simp] theorem State.setSp_platform (s : State) (v : Word) : (s.setSp v).platform = s.platform := rfl
@[simp] theorem State.setSp_irqEvents (s : State) (v : Word) : (s.setSp v).irqEvents = s.irqEvents := rfl
@[simp] theorem State.setSp_busLog (s : State) (v : Word) : (s.setSp v).busLog = s.busLog := rfl
@[simp] theorem State.setSp_draws (s : State) (v : Word) : (s.setSp v).draws = s.draws := rfl
@[simp] theorem State.setSp_gpr (s : State) (v : Word) (h : Gpr) : (s.setSp v).gpr h = s.gpr h := rfl
@[simp] theorem State.setSp_npc (s : State) (v : Word) : (s.setSp v).npc = s.npc := rfl
@[simp] theorem State.setSp_byteAt (s : State) (v : Word) (p : Phys) : (s.setSp v).byteAt p = s.byteAt p := rfl
@[simp] theorem State.setSp_translate (s : State) (v : Word) (k : Space) (a : Word) :
    (s.setSp v).translate k a = s.translate k a := rfl
@[simp] theorem State.setSp_readable (s : State) (v : Word) (p : Phys) : (s.setSp v).readable p = s.readable p := rfl
@[simp] theorem State.setSp_writable (s : State) (v : Word) (p : Phys) : (s.setSp v).writable p = s.writable p := rfl

/-! ### `setPc` -/

@[simp] theorem State.setPc_regs (s : State) (v : Word) : (s.setPc v).regs = s.regs := rfl
@[simp] theorem State.setPc_sp (s : State) (v : Word) : (s.setPc v).sp = s.sp := rfl
@[simp] theorem State.setPc_pc (s : State) (v : Word) : (s.setPc v).pc = dropBit0 v := rfl
@[simp] theorem State.setPc_flags (s : State) (v : Word) : (s.setPc v).flags = s.flags := rfl
@[simp] theorem State.setPc_mask (s : State) (v : Word) : (s.setPc v).mask = s.mask := rfl
@[simp] theorem State.setPc_req (s : State) (v : Word) : (s.setPc v).req = s.req := rfl
@[simp] theorem State.setPc_ie (s : State) (v : Word) : (s.setPc v).ie = s.ie := rfl
@[simp] theorem State.setPc_sels (s : State) (v : Word) : (s.setPc v).sels = s.sels := rfl
@[simp] theorem State.setPc_mem (s : State) (v : Word) : (s.setPc v).mem = s.mem := rfl
@[simp] theorem State.setPc_platform (s : State) (v : Word) : (s.setPc v).platform = s.platform := rfl
@[simp] theorem State.setPc_irqEvents (s : State) (v : Word) : (s.setPc v).irqEvents = s.irqEvents := rfl
@[simp] theorem State.setPc_busLog (s : State) (v : Word) : (s.setPc v).busLog = s.busLog := rfl
@[simp] theorem State.setPc_draws (s : State) (v : Word) : (s.setPc v).draws = s.draws := rfl
@[simp] theorem State.setPc_gpr (s : State) (v : Word) (h : Gpr) : (s.setPc v).gpr h = s.gpr h := rfl
@[simp] theorem State.setPc_byteAt (s : State) (v : Word) (p : Phys) : (s.setPc v).byteAt p = s.byteAt p := rfl
@[simp] theorem State.setPc_translate (s : State) (v : Word) (k : Space) (a : Word) :
    (s.setPc v).translate k a = s.translate k a := rfl
@[simp] theorem State.setPc_readable (s : State) (v : Word) (p : Phys) : (s.setPc v).readable p = s.readable p := rfl
@[simp] theorem State.setPc_writable (s : State) (v : Word) (p : Phys) : (s.setPc v).writable p = s.writable p := rfl

/-! ### `advance` -/

@[simp] theorem State.advance_regs (s : State) : (s.advance).regs = s.regs := rfl
@[simp] theorem State.advance_sp (s : State) : (s.advance).sp = s.sp := rfl
@[simp] theorem State.advance_pc (s : State) : (s.advance).pc = dropBit0 s.npc := rfl
@[simp] theorem State.advance_flags (s : State) : (s.advance).flags = s.flags := rfl
@[simp] theorem State.advance_mask (s : State) : (s.advance).mask = s.mask := rfl
@[simp] theorem State.advance_req (s : State) : (s.advance).req = s.req := rfl
@[simp] theorem State.advance_ie (s : State) : (s.advance).ie = s.ie := rfl
@[simp] theorem State.advance_sels (s : State) : (s.advance).sels = s.sels := rfl
@[simp] theorem State.advance_mem (s : State) : (s.advance).mem = s.mem := rfl
@[simp] theorem State.advance_platform (s : State) : (s.advance).platform = s.platform := rfl
@[simp] theorem State.advance_irqEvents (s : State) : (s.advance).irqEvents = s.irqEvents := rfl
@[simp] theorem State.advance_busLog (s : State) : (s.advance).busLog = s.busLog := rfl
@[simp] theorem State.advance_draws (s : State) : (s.advance).draws = s.draws := rfl
@[simp] theorem State.advance_gpr (s : State) (h : Gpr) : (s.advance).gpr h = s.gpr h := rfl
@[simp] theorem State.advance_byteAt (s : State) (p : Phys) : (s.advance).byteAt p = s.byteAt p := rfl
@[simp] theorem State.advance_translate (s : State) (k : Space) (a : Word) :
    (s.advance).translate k a = s.translate k a := rfl
@[simp] theorem State.advance_readable (s : State) (p : Phys) : (s.advance).readable p = s.readable p := rfl
@[simp] theorem State.advance_writable (s : State) (p : Phys) : (s.advance).writable p = s.writable p := rfl

/-! ### `setFlags` -/

@[simp] theorem State.setFlags_regs (s : State) (f : Flags) : (s.setFlags f).regs = s.regs := rfl
@[simp] theorem State.setFlags_sp (s : State) (f : Flags) : (s.setFlags f).sp = s.sp := rfl
@[simp] theorem State.setFlags_pc (s : State) (f : Flags) : (s.setFlags f).pc = s.pc := rfl
@[simp] theorem State.setFlags_flags (s : State) (f : Flags) : (s.setFlags f).flags = f := rfl
@[simp] theorem State.setFlags_mask (s : State) (f : Flags) : (s.setFlags f).mask = s.mask := rfl
@[simp] theorem State.setFlags_req (s : State) (f : Flags) : (s.setFlags f).req = s.req := rfl
@[simp] theorem State.setFlags_ie (s : State) (f : Flags) : (s.setFlags f).ie = s.ie := rfl
@[simp] theorem State.setFlags_sels (s : State) (f : Flags) : (s.setFlags f).sels = s.sels := rfl
@[simp] theorem State.setFlags_mem (s : State) (f : Flags) : (s.setFlags f).mem = s.mem := rfl
@[simp] theorem State.setFlags_platform (s : State) (f : Flags) : (s.setFlags f).platform = s.platform := rfl
@[simp] theorem State.setFlags_irqEvents (s : State) (f : Flags) : (s.setFlags f).irqEvents = s.irqEvents := rfl
@[simp] theorem State.setFlags_busLog (s : State) (f : Flags) : (s.setFlags f).busLog = s.busLog := rfl
@[simp] theorem State.setFlags_draws (s : State) (f : Flags) : (s.setFlags f).draws = s.draws := rfl
@[simp] theorem State.setFlags_gpr (s : State) (f : Flags) (h : Gpr) : (s.setFlags f).gpr h = s.gpr h := rfl
@[simp] theorem State.setFlags_npc (s : State) (f : Flags) : (s.setFlags f).npc = s.npc := rfl
@[simp] theorem State.setFlags_byteAt (s : State) (f : Flags) (p : Phys) : (s.setFlags f).byteAt p = s.byteAt p := rfl
@[simp] theorem State.setFlags_translate (s : State) (f : Flags) (k : Space) (a : Word) :
    (s.setFlags f).translate k a = s.translate k a := rfl
@[simp] theorem State.setFlags_readable (s : State) (f : Flags) (p : Phys) : (s.setFlags f).readable p = s.readable p := rfl
@[simp] theorem State.setFlags_writable (s : State) (f : Flags) (p : Phys) : (s.setFlags f).writable p = s.writable p := rfl

/-! ### `setMask` -/

@[simp] theorem State.setMask_regs (s : State) (m : BitVec 6) : (s.setMask m).regs = s.regs := rfl
@[simp] theorem State.setMask_sp (s : State) (m : BitVec 6) : (s.setMask m).sp = s.sp := rfl
@[simp] theorem State.setMask_pc (s : State) (m : BitVec 6) : (s.setMask m).pc = s.pc := rfl
@[simp] theorem State.setMask_flags (s : State) (m : BitVec 6) : (s.setMask m).flags = s.flags := rfl
@[simp] theorem State.setMask_mask (s : State) (m : BitVec 6) : (s.setMask m).mask = m := rfl
@[simp] theorem State.setMask_req (s : State) (m : BitVec 6) : (s.setMask m).req = s.req := rfl
@[simp] theorem State.setMask_ie (s : State) (m : BitVec 6) : (s.setMask m).ie = s.ie := rfl
@[simp] theorem State.setMask_sels (s : State) (m : BitVec 6) : (s.setMask m).sels = s.sels := rfl
@[simp] theorem State.setMask_mem (s : State) (m : BitVec 6) : (s.setMask m).mem = s.mem := rfl
@[simp] theorem State.setMask_platform (s : State) (m : BitVec 6) : (s.setMask m).platform = s.platform := rfl
@[simp] theorem State.setMask_irqEvents (s : State) (m : BitVec 6) : (s.setMask m).irqEvents = s.irqEvents := rfl
@[simp] theorem State.setMask_busLog (s : State) (m : BitVec 6) : (s.setMask m).busLog = s.busLog := rfl
@[simp] theorem State.setMask_draws (s : State) (m : BitVec 6) : (s.setMask m).draws = s.draws := rfl
@[simp] theorem State.setMask_gpr (s : State) (m : BitVec 6) (h : Gpr) : (s.setMask m).gpr h = s.gpr h := rfl
@[simp] theorem State.setMask_npc (s : State) (m : BitVec 6) : (s.setMask m).npc = s.npc := rfl
@[simp] theorem State.setMask_byteAt (s : State) (m : BitVec 6) (p : Phys) : (s.setMask m).byteAt p = s.byteAt p := rfl
@[simp] theorem State.setMask_translate (s : State) (m : BitVec 6) (k : Space) (a : Word) :
    (s.setMask m).translate k a = s.translate k a := rfl
@[simp] theorem State.setMask_readable (s : State) (m : BitVec 6) (p : Phys) : (s.setMask m).readable p = s.readable p := rfl
@[simp] theorem State.setMask_writable (s : State) (m : BitVec 6) (p : Phys) : (s.setMask m).writable p = s.writable p := rfl

/-! ### `setReq` -/

@[simp] theorem State.setReq_regs (s : State) (r : BitVec 6) : (s.setReq r).regs = s.regs := rfl
@[simp] theorem State.setReq_sp (s : State) (r : BitVec 6) : (s.setReq r).sp = s.sp := rfl
@[simp] theorem State.setReq_pc (s : State) (r : BitVec 6) : (s.setReq r).pc = s.pc := rfl
@[simp] theorem State.setReq_flags (s : State) (r : BitVec 6) : (s.setReq r).flags = s.flags := rfl
@[simp] theorem State.setReq_mask (s : State) (r : BitVec 6) : (s.setReq r).mask = s.mask := rfl
@[simp] theorem State.setReq_req (s : State) (r : BitVec 6) : (s.setReq r).req = r := rfl
@[simp] theorem State.setReq_ie (s : State) (r : BitVec 6) : (s.setReq r).ie = s.ie := rfl
@[simp] theorem State.setReq_sels (s : State) (r : BitVec 6) : (s.setReq r).sels = s.sels := rfl
@[simp] theorem State.setReq_mem (s : State) (r : BitVec 6) : (s.setReq r).mem = s.mem := rfl
@[simp] theorem State.setReq_platform (s : State) (r : BitVec 6) : (s.setReq r).platform = s.platform := rfl
@[simp] theorem State.setReq_irqEvents (s : State) (r : BitVec 6) : (s.setReq r).irqEvents = s.irqEvents := rfl
@[simp] theorem State.setReq_busLog (s : State) (r : BitVec 6) : (s.setReq r).busLog = s.busLog := rfl
@[simp] theorem State.setReq_draws (s : State) (r : BitVec 6) : (s.setReq r).draws = s.draws := rfl
@[simp] theorem State.setReq_gpr (s : State) (r : BitVec 6) (h : Gpr) : (s.setReq r).gpr h = s.gpr h := rfl
@[simp] theorem State.setReq_npc (s : State) (r : BitVec 6) : (s.setReq r).npc = s.npc := rfl
@[simp] theorem State.setReq_byteAt (s : State) (r : BitVec 6) (p : Phys) : (s.setReq r).byteAt p = s.byteAt p := rfl
@[simp] theorem State.setReq_translate (s : State) (r : BitVec 6) (k : Space) (a : Word) :
    (s.setReq r).translate k a = s.translate k a := rfl
@[simp] theorem State.setReq_readable (s : State) (r : BitVec 6) (p : Phys) : (s.setReq r).readable p = s.readable p := rfl
@[simp] theorem State.setReq_writable (s : State) (r : BitVec 6) (p : Phys) : (s.setReq r).writable p = s.writable p := rfl

/-! ### `setIe` -/

@[simp] theorem State.setIe_regs (s : State) (b : Bool) : (s.setIe b).regs = s.regs := rfl
@[simp] theorem State.setIe_sp (s : State) (b : Bool) : (s.setIe b).sp = s.sp := rfl
@[simp] theorem State.setIe_pc (s : State) (b : Bool) : (s.setIe b).pc = s.pc := rfl
@[simp] theorem State.setIe_flags (s : State) (b : Bool) : (s.setIe b).flags = s.flags := rfl
@[simp] theorem State.setIe_mask (s : State) (b : Bool) : (s.setIe b).mask = s.mask := rfl
@[simp] theorem State.setIe_req (s : State) (b : Bool) : (s.setIe b).req = s.req := rfl
@[simp] theorem State.setIe_ie (s : State) (b : Bool) : (s.setIe b).ie = b := rfl
@[simp] theorem State.setIe_sels (s : State) (b : Bool) : (s.setIe b).sels = s.sels := rfl
@[simp] theorem State.setIe_mem (s : State) (b : Bool) : (s.setIe b).mem = s.mem := rfl
@[simp] theorem State.setIe_platform (s : State) (b : Bool) : (s.setIe b).platform = s.platform := rfl
@[simp] theorem State.setIe_irqEvents (s : State) (b : Bool) : (s.setIe b).irqEvents = s.irqEvents := rfl
@[simp] theorem State.setIe_busLog (s : State) (b : Bool) : (s.setIe b).busLog = s.busLog := rfl
@[simp] theorem State.setIe_draws (s : State) (b : Bool) : (s.setIe b).draws = s.draws := rfl
@[simp] theorem State.setIe_gpr (s : State) (b : Bool) (h : Gpr) : (s.setIe b).gpr h = s.gpr h := rfl
@[simp] theorem State.setIe_npc (s : State) (b : Bool) : (s.setIe b).npc = s.npc := rfl
@[simp] theorem State.setIe_byteAt (s : State) (b : Bool) (p : Phys) : (s.setIe b).byteAt p = s.byteAt p := rfl
@[simp] theorem State.setIe_translate (s : State) (b : Bool) (k : Space) (a : Word) :
    (s.setIe b).translate k a = s.translate k a := rfl
@[simp] theorem State.setIe_readable (s : State) (b : Bool) (p : Phys) : (s.setIe b).readable p = s.readable p := rfl
@[simp] theorem State.setIe_writable (s : State) (b : Bool) (p : Phys) : (s.setIe b).writable p = s.writable p := rfl

/-! ### `setSels` -/

@[simp] theorem State.setSels_regs (s : State) (t : Selectors) : (s.setSels t).regs = s.regs := rfl
@[simp] theorem State.setSels_sp (s : State) (t : Selectors) : (s.setSels t).sp = s.sp := rfl
@[simp] theorem State.setSels_pc (s : State) (t : Selectors) : (s.setSels t).pc = s.pc := rfl
@[simp] theorem State.setSels_flags (s : State) (t : Selectors) : (s.setSels t).flags = s.flags := rfl
@[simp] theorem State.setSels_mask (s : State) (t : Selectors) : (s.setSels t).mask = s.mask := rfl
@[simp] theorem State.setSels_req (s : State) (t : Selectors) : (s.setSels t).req = s.req := rfl
@[simp] theorem State.setSels_ie (s : State) (t : Selectors) : (s.setSels t).ie = s.ie := rfl
@[simp] theorem State.setSels_sels (s : State) (t : Selectors) : (s.setSels t).sels = t := rfl
@[simp] theorem State.setSels_mem (s : State) (t : Selectors) : (s.setSels t).mem = s.mem := rfl
@[simp] theorem State.setSels_platform (s : State) (t : Selectors) : (s.setSels t).platform = s.platform := rfl
@[simp] theorem State.setSels_irqEvents (s : State) (t : Selectors) : (s.setSels t).irqEvents = s.irqEvents := rfl
@[simp] theorem State.setSels_busLog (s : State) (t : Selectors) : (s.setSels t).busLog = s.busLog := rfl
@[simp] theorem State.setSels_draws (s : State) (t : Selectors) : (s.setSels t).draws = s.draws := rfl
@[simp] theorem State.setSels_gpr (s : State) (t : Selectors) (h : Gpr) : (s.setSels t).gpr h = s.gpr h := rfl
@[simp] theorem State.setSels_npc (s : State) (t : Selectors) : (s.setSels t).npc = s.npc := rfl
@[simp] theorem State.setSels_byteAt (s : State) (t : Selectors) (p : Phys) : (s.setSels t).byteAt p = s.byteAt p := rfl
@[simp] theorem State.setSels_readable (s : State) (t : Selectors) (p : Phys) : (s.setSels t).readable p = s.readable p := rfl
@[simp] theorem State.setSels_writable (s : State) (t : Selectors) (p : Phys) : (s.setSels t).writable p = s.writable p := rfl

/-! ### `setMem` -/

@[simp] theorem State.setMem_regs (s : State) (m : Memory) : (s.setMem m).regs = s.regs := rfl
@[simp] theorem State.setMem_sp (s : State) (m : Memory) : (s.setMem m).sp = s.sp := rfl
@[simp] theorem State.setMem_pc (s : State) (m : Memory) : (s.setMem m).pc = s.pc := rfl
@[simp] theorem State.setMem_flags (s : State) (m : Memory) : (s.setMem m).flags = s.flags := rfl
@[simp] theorem State.setMem_mask (s : State) (m : Memory) : (s.setMem m).mask = s.mask := rfl
@[simp] theorem State.setMem_req (s : State) (m : Memory) : (s.setMem m).req = s.req := rfl
@[simp] theorem State.setMem_ie (s : State) (m : Memory) : (s.setMem m).ie = s.ie := rfl
@[simp] theorem State.setMem_sels (s : State) (m : Memory) : (s.setMem m).sels = s.sels := rfl
@[simp] theorem State.setMem_mem (s : State) (m : Memory) : (s.setMem m).mem = m := rfl
@[simp] theorem State.setMem_platform (s : State) (m : Memory) : (s.setMem m).platform = s.platform := rfl
@[simp] theorem State.setMem_irqEvents (s : State) (m : Memory) : (s.setMem m).irqEvents = s.irqEvents := rfl
@[simp] theorem State.setMem_busLog (s : State) (m : Memory) : (s.setMem m).busLog = s.busLog := rfl
@[simp] theorem State.setMem_draws (s : State) (m : Memory) : (s.setMem m).draws = s.draws := rfl
@[simp] theorem State.setMem_gpr (s : State) (m : Memory) (h : Gpr) : (s.setMem m).gpr h = s.gpr h := rfl
@[simp] theorem State.setMem_npc (s : State) (m : Memory) : (s.setMem m).npc = s.npc := rfl
@[simp] theorem State.setMem_translate (s : State) (m : Memory) (k : Space) (a : Word) :
    (s.setMem m).translate k a = s.translate k a := rfl
@[simp] theorem State.setMem_readable (s : State) (m : Memory) (p : Phys) : (s.setMem m).readable p = s.readable p := rfl
@[simp] theorem State.setMem_writable (s : State) (m : Memory) (p : Phys) : (s.setMem m).writable p = s.writable p := rfl

/-! ### `setBusLog` -/

@[simp] theorem State.setBusLog_regs (s : State) (l : List (Nat × Access)) : (s.setBusLog l).regs = s.regs := rfl
@[simp] theorem State.setBusLog_sp (s : State) (l : List (Nat × Access)) : (s.setBusLog l).sp = s.sp := rfl
@[simp] theorem State.setBusLog_pc (s : State) (l : List (Nat × Access)) : (s.setBusLog l).pc = s.pc := rfl
@[simp] theorem State.setBusLog_flags (s : State) (l : List (Nat × Access)) : (s.setBusLog l).flags = s.flags := rfl
@[simp] theorem State.setBusLog_mask (s : State) (l : List (Nat × Access)) : (s.setBusLog l).mask = s.mask := rfl
@[simp] theorem State.setBusLog_req (s : State) (l : List (Nat × Access)) : (s.setBusLog l).req = s.req := rfl
@[simp] theorem State.setBusLog_ie (s : State) (l : List (Nat × Access)) : (s.setBusLog l).ie = s.ie := rfl
@[simp] theorem State.setBusLog_sels (s : State) (l : List (Nat × Access)) : (s.setBusLog l).sels = s.sels := rfl
@[simp] theorem State.setBusLog_mem (s : State) (l : List (Nat × Access)) : (s.setBusLog l).mem = s.mem := rfl
@[simp] theorem State.setBusLog_platform (s : State) (l : List (Nat × Access)) : (s.setBusLog l).platform = s.platform := rfl
@[simp] theorem State.setBusLog_irqEvents (s : State) (l : List (Nat × Access)) : (s.setBusLog l).irqEvents = s.irqEvents := rfl
@[simp] theorem State.setBusLog_busLog (s : State) (l : List (Nat × Access)) : (s.setBusLog l).busLog = l := rfl
@[simp] theorem State.setBusLog_draws (s : State) (l : List (Nat × Access)) : (s.setBusLog l).draws = s.draws := rfl
@[simp] theorem State.setBusLog_gpr (s : State) (l : List (Nat × Access)) (h : Gpr) : (s.setBusLog l).gpr h = s.gpr h := rfl
@[simp] theorem State.setBusLog_npc (s : State) (l : List (Nat × Access)) : (s.setBusLog l).npc = s.npc := rfl
@[simp] theorem State.setBusLog_byteAt (s : State) (l : List (Nat × Access)) (p : Phys) : (s.setBusLog l).byteAt p = s.byteAt p := rfl
@[simp] theorem State.setBusLog_translate (s : State) (l : List (Nat × Access)) (k : Space) (a : Word) :
    (s.setBusLog l).translate k a = s.translate k a := rfl
@[simp] theorem State.setBusLog_readable (s : State) (l : List (Nat × Access)) (p : Phys) : (s.setBusLog l).readable p = s.readable p := rfl
@[simp] theorem State.setBusLog_writable (s : State) (l : List (Nat × Access)) (p : Phys) : (s.setBusLog l).writable p = s.writable p := rfl

/-! ### `setDraws` -/

@[simp] theorem State.setDraws_regs (s : State) (n : Nat) : (s.setDraws n).regs = s.regs := rfl
@[simp] theorem State.setDraws_sp (s : State) (n : Nat) : (s.setDraws n).sp = s.sp := rfl
@[simp] theorem State.setDraws_pc (s : State) (n : Nat) : (s.setDraws n).pc = s.pc := rfl
@[simp] theorem State.setDraws_flags (s : State) (n : Nat) : (s.setDraws n).flags = s.flags := rfl
@[simp] theorem State.setDraws_mask (s : State) (n : Nat) : (s.setDraws n).mask = s.mask := rfl
@[simp] theorem State.setDraws_req (s : State) (n : Nat) : (s.setDraws n).req = s.req := rfl
@[simp] theorem State.setDraws_ie (s : State) (n : Nat) : (s.setDraws n).ie = s.ie := rfl
@[simp] theorem State.setDraws_sels (s : State) (n : Nat) : (s.setDraws n).sels = s.sels := rfl
@[simp] theorem State.setDraws_mem (s : State) (n : Nat) : (s.setDraws n).mem = s.mem := rfl
@[simp] theorem State.setDraws_platform (s : State) (n : Nat) : (s.setDraws n).platform = s.platform := rfl
@[simp] theorem State.setDraws_irqEvents (s : State) (n : Nat) : (s.setDraws n).irqEvents = s.irqEvents := rfl
@[simp] theorem State.setDraws_busLog (s : State) (n : Nat) : (s.setDraws n).busLog = s.busLog := rfl
@[simp] theorem State.setDraws_draws (s : State) (n : Nat) : (s.setDraws n).draws = n := rfl
@[simp] theorem State.setDraws_gpr (s : State) (n : Nat) (h : Gpr) : (s.setDraws n).gpr h = s.gpr h := rfl
@[simp] theorem State.setDraws_npc (s : State) (n : Nat) : (s.setDraws n).npc = s.npc := rfl
@[simp] theorem State.setDraws_byteAt (s : State) (n : Nat) (p : Phys) : (s.setDraws n).byteAt p = s.byteAt p := rfl
@[simp] theorem State.setDraws_translate (s : State) (n : Nat) (k : Space) (a : Word) :
    (s.setDraws n).translate k a = s.translate k a := rfl
@[simp] theorem State.setDraws_readable (s : State) (n : Nat) (p : Phys) : (s.setDraws n).readable p = s.readable p := rfl
@[simp] theorem State.setDraws_writable (s : State) (n : Nat) (p : Phys) : (s.setDraws n).writable p = s.writable p := rfl

/-! ### `drawn` -/

@[simp] theorem State.drawn_regs (s : State) (n : Nat) : (s.drawn n).regs = s.regs := rfl
@[simp] theorem State.drawn_sp (s : State) (n : Nat) : (s.drawn n).sp = s.sp := rfl
@[simp] theorem State.drawn_pc (s : State) (n : Nat) : (s.drawn n).pc = s.pc := rfl
@[simp] theorem State.drawn_flags (s : State) (n : Nat) : (s.drawn n).flags = s.flags := rfl
@[simp] theorem State.drawn_mask (s : State) (n : Nat) : (s.drawn n).mask = s.mask := rfl
@[simp] theorem State.drawn_req (s : State) (n : Nat) : (s.drawn n).req = s.req := rfl
@[simp] theorem State.drawn_ie (s : State) (n : Nat) : (s.drawn n).ie = s.ie := rfl
@[simp] theorem State.drawn_sels (s : State) (n : Nat) : (s.drawn n).sels = s.sels := rfl
@[simp] theorem State.drawn_mem (s : State) (n : Nat) : (s.drawn n).mem = s.mem := rfl
@[simp] theorem State.drawn_platform (s : State) (n : Nat) : (s.drawn n).platform = s.platform := rfl
@[simp] theorem State.drawn_irqEvents (s : State) (n : Nat) : (s.drawn n).irqEvents = s.irqEvents := rfl
@[simp] theorem State.drawn_busLog (s : State) (n : Nat) : (s.drawn n).busLog = s.busLog := rfl
@[simp] theorem State.drawn_draws (s : State) (n : Nat) : (s.drawn n).draws = s.draws + n := rfl
@[simp] theorem State.drawn_gpr (s : State) (n : Nat) (h : Gpr) : (s.drawn n).gpr h = s.gpr h := rfl
@[simp] theorem State.drawn_npc (s : State) (n : Nat) : (s.drawn n).npc = s.npc := rfl
@[simp] theorem State.drawn_byteAt (s : State) (n : Nat) (p : Phys) : (s.drawn n).byteAt p = s.byteAt p := rfl
@[simp] theorem State.drawn_translate (s : State) (n : Nat) (k : Space) (a : Word) :
    (s.drawn n).translate k a = s.translate k a := rfl
@[simp] theorem State.drawn_readable (s : State) (n : Nat) (p : Phys) : (s.drawn n).readable p = s.readable p := rfl
@[simp] theorem State.drawn_writable (s : State) (n : Nat) (p : Phys) : (s.drawn n).writable p = s.writable p := rfl

/-! ### General registers -/

theorem Regs.get_set (r : Regs) (g h : Gpr) (v : Word) : (r.set g v).get h = if h = g then v else r.get h := by
  cases g <;> cases h <;> rfl

@[simp] theorem Regs.get_set_same (r : Regs) (g : Gpr) (v : Word) : (r.set g v).get g = v := by
  cases g <;> rfl

theorem State.setGpr_gpr (s : State) (g h : Gpr) (v : Word) :
    (s.setGpr g v).gpr h = if h = g then v else s.gpr h := Regs.get_set s.regs g h v

@[simp] theorem State.setGpr_gpr_same (s : State) (g : Gpr) (v : Word) : (s.setGpr g v).gpr g = v :=
  Regs.get_set_same s.regs g v

theorem State.setGpr_gpr_other (s : State) {g h : Gpr} (v : Word) (ne : h ≠ g) :
    (s.setGpr g v).gpr h = s.gpr h := by rw [State.setGpr_gpr, if_neg ne]

/-! ### Writing a numbered register (R9) -/

@[simp] theorem State.setReg_gpr (s : State) (g : Gpr) (v : Word) : s.setReg (.gpr g) v = s.setGpr g v := rfl
@[simp] theorem State.setReg_sp (s : State) (v : Word) : s.setReg .sp v = s.setSp v := rfl
@[simp] theorem State.setReg_pc (s : State) (v : Word) : s.setReg .pc v = s.setPc v := rfl

theorem State.setReg_mem (s : State) (r : Reg) (v : Word) : (s.setReg r v).mem = s.mem := by cases r <;> rfl
theorem State.setReg_busLog (s : State) (r : Reg) (v : Word) : (s.setReg r v).busLog = s.busLog := by cases r <;> rfl
theorem State.setReg_flags (s : State) (r : Reg) (v : Word) : (s.setReg r v).flags = s.flags := by cases r <;> rfl
theorem State.setReg_sels (s : State) (r : Reg) (v : Word) : (s.setReg r v).sels = s.sels := by cases r <;> rfl

/-! ### Selectors -/

theorem Selectors.get_set (t : Selectors) (j k : Fin 8) (v : Byte) :
    (t.set k v).get j = if j = k then v else t.get j := by
  revert j k
  simp only [Fin.forall_fin_succ, Fin.forall_fin_zero]
  exact ⟨by refine ⟨?_, ?_⟩ <;> simp [Selectors.get, Selectors.set], by simp [Selectors.get, Selectors.set]⟩

/-! ### Values written to sp and pc (R23, R25) -/

@[simp] theorem dropBit0_getLsbD_zero (v : Word) : (dropBit0 v).getLsbD 0 = false := by
  simp [dropBit0]

theorem dropBit0_of_even {v : Word} (h : v.getLsbD 0 = false) : dropBit0 v = v := by
  have ones : ∀ k : Fin 16, k.val ≠ 0 → (0xFFFE#16).getLsbD k.val = true := by decide
  refine BitVec.eq_of_getLsbD_eq fun i hi => ?_
  simp only [dropBit0, BitVec.getLsbD_and]
  by_cases zero : i = 0
  · subst zero
    rw [h, Bool.false_and]
  · rw [ones ⟨i, hi⟩ zero, Bool.and_true]

end Sys2Proof.Machine
end

