-- ==== Sys2Proof/Laws/Memory.lean ====
section
/-! SUPPORT. Physical memory: reads after writes, and the canonical form that every write keeps. -/

namespace Sys2Proof.Machine

/-! ### Reads after writes (R70) -/

theorem Memory.read_erase (m : Memory) (a b : Nat) :
    (m.erase a).read b = if b = a then Config.unlistedByte else m.read b := by
  induction m with
  | nil => simp [Memory.erase, Memory.read]
  | cons c rest ih =>
    obtain ⟨k, v⟩ := c
    by_cases ak : a = k
    · subst ak
      by_cases ba : b = a
      · subst ba
        simpa [Memory.erase] using ih
      · simp [Memory.erase, Memory.read, ih, ba]
    · by_cases bk : b = k
      · subst bk
        simp [Memory.erase, Memory.read, ak, Ne.symm ak]
      · simp [Memory.erase, Memory.read, ih, ak, bk]

theorem Memory.read_insert (m : Memory) (a b : Nat) (v : Byte) (fresh : ∀ c ∈ m, c.1 ≠ a) :
    (m.insert a v).read b = if b = a then v else m.read b := by
  induction m with
  | nil => simp [Memory.insert, Memory.read]
  | cons c rest ih =>
    obtain ⟨k, w⟩ := c
    have ka : k ≠ a := fresh (k, w) (by simp)
    have rest_fresh : ∀ c ∈ rest, c.1 ≠ a := fun c hc => fresh c (by simp [hc])
    by_cases lt : a < k
    · simp [Memory.insert, Memory.read, lt]
    · by_cases bk : b = k
      · subst bk
        simp [Memory.insert, Memory.read, lt, ka]
      · simp [Memory.insert, Memory.read, lt, bk, ih rest_fresh]

theorem Memory.mem_of_mem_erase {m : Memory} {a : Nat} {c : Host.Cell} (h : c ∈ m.erase a) : c ∈ m ∧ c.1 ≠ a := by
  induction m with
  | nil => simp [Memory.erase] at h
  | cons d rest ih =>
    obtain ⟨k, v⟩ := d
    by_cases ak : a = k
    · simp only [Memory.erase, if_pos ak] at h
      exact ⟨List.mem_cons_of_mem _ (ih h).1, (ih h).2⟩
    · simp only [Memory.erase, if_neg ak, List.mem_cons] at h
      rcases h with rfl | h
      · exact ⟨by simp, Ne.symm ak⟩
      · exact ⟨List.mem_cons_of_mem _ (ih h).1, (ih h).2⟩

/-- What a byte reads as after a write: the value at the written address, the old byte elsewhere. -/
theorem Memory.read_write (m : Memory) (a b : Nat) (v : Byte) :
    (m.write a v).read b = if b = a then v else m.read b := by
  unfold Memory.write
  by_cases unlisted : v = Config.unlistedByte
  · rw [if_pos unlisted, Memory.read_erase, unlisted]
  · rw [if_neg unlisted, Memory.read_insert _ _ _ _ fun c hc => (Memory.mem_of_mem_erase hc).2, Memory.read_erase]
    by_cases ba : b = a <;> simp [ba]

@[simp] theorem Memory.read_write_same (m : Memory) (a : Nat) (v : Byte) : (m.write a v).read a = v := by
  rw [Memory.read_write, if_pos rfl]

theorem Memory.read_write_other (m : Memory) {a b : Nat} (v : Byte) (ne : b ≠ a) :
    (m.write a v).read b = m.read b := by
  rw [Memory.read_write, if_neg ne]

/-! ### The canonical form -/

theorem Memory.mem_insert {m : Memory} {a : Nat} {v : Byte} {c : Host.Cell} :
    c ∈ m.insert a v ↔ c = (a, v) ∨ c ∈ m := by
  induction m with
  | nil => simp [Memory.insert]
  | cons d rest ih =>
    obtain ⟨k, w⟩ := d
    by_cases lt : a < k
    · simp [Memory.insert, lt]
    · simp only [Memory.insert, if_neg lt, List.mem_cons, ih]
      tauto

theorem Memory.erase_wf {m : Memory} (a : Nat) (wf : m.Wf) : (m.erase a).Wf := by
  refine ⟨?_, fun c hc => wf.2 c (Memory.mem_of_mem_erase hc).1⟩
  have rising := wf.1
  clear wf
  induction m with
  | nil => simp [Memory.erase]
  | cons d rest ih =>
    obtain ⟨k, v⟩ := d
    rw [List.pairwise_cons] at rising
    by_cases ak : a = k
    · simpa [Memory.erase, ak] using ak ▸ ih rising.2
    · simp only [Memory.erase, if_neg ak, List.pairwise_cons]
      exact ⟨fun c hc => rising.1 c (Memory.mem_of_mem_erase hc).1, ih rising.2⟩

theorem Memory.insert_wf {m : Memory} {a : Nat} {v : Byte} (small : a < 2 ^ 22) (listed : v ≠ Config.unlistedByte)
    (fresh : ∀ c ∈ m, c.1 ≠ a) (wf : m.Wf) : (m.insert a v).Wf := by
  refine ⟨?_, fun c hc => ?_⟩
  · have rising := wf.1
    clear wf
    induction m with
    | nil => simp [Memory.insert]
    | cons d rest ih =>
      obtain ⟨k, w⟩ := d
      have ka : k ≠ a := fresh (k, w) (by simp)
      have rest_fresh : ∀ c ∈ rest, c.1 ≠ a := fun c hc => fresh c (by simp [hc])
      rw [List.pairwise_cons] at rising
      by_cases lt : a < k
      · simp only [Memory.insert, if_pos lt, List.pairwise_cons, List.mem_cons]
        refine ⟨fun c hc => ?_, rising⟩
        rcases hc with rfl | hc
        · exact lt
        · exact lt.trans (rising.1 c hc)
      · simp only [Memory.insert, if_neg lt, List.pairwise_cons]
        refine ⟨fun c hc => ?_, ih rest_fresh rising.2⟩
        rcases Memory.mem_insert.mp hc with rfl | hc
        · show k < a
          omega
        · exact rising.1 c hc
  · rcases Memory.mem_insert.mp hc with rfl | hc
    · exact ⟨small, listed⟩
    · exact wf.2 c hc

/-- A write keeps the canonical form. -/
theorem Memory.write_wf {m : Memory} {a : Nat} (v : Byte) (small : a < 2 ^ 22) (wf : m.Wf) : (m.write a v).Wf := by
  unfold Memory.write
  by_cases unlisted : v = Config.unlistedByte
  · rw [if_pos unlisted]
    exact Memory.erase_wf a wf
  · rw [if_neg unlisted]
    exact Memory.insert_wf small unlisted (fun c hc => (Memory.mem_of_mem_erase hc).2) (Memory.erase_wf a wf)

theorem Memory.nil_wf : Memory.Wf ([] : Memory) := by simp [Memory.Wf]

theorem reset_mem_wf : State.reset.mem.Wf := Memory.nil_wf

/-- An address that is not listed reads as the unlisted byte. -/
theorem Memory.read_eq_unlisted_of_not_listed (m : Memory) (a : Nat) (fresh : ∀ c ∈ m, c.1 ≠ a) :
    m.read a = Config.unlistedByte := by
  induction m with
  | nil => rfl
  | cons d rest ih =>
    obtain ⟨k, w⟩ := d
    have ka : k ≠ a := fresh (k, w) (by simp)
    simp only [Memory.read, if_neg (Ne.symm ka)]
    exact ih fun c hc => fresh c (by simp [hc])

/-! ### Bytes of a state -/

@[simp] theorem State.putByte_regs (s : State) (k : Space) (a : Word) (v : Byte) : (s.putByte k a v).regs = s.regs := rfl
@[simp] theorem State.putByte_sp (s : State) (k : Space) (a : Word) (v : Byte) : (s.putByte k a v).sp = s.sp := rfl
@[simp] theorem State.putByte_pc (s : State) (k : Space) (a : Word) (v : Byte) : (s.putByte k a v).pc = s.pc := rfl
@[simp] theorem State.putByte_flags (s : State) (k : Space) (a : Word) (v : Byte) : (s.putByte k a v).flags = s.flags := rfl
@[simp] theorem State.putByte_mask (s : State) (k : Space) (a : Word) (v : Byte) : (s.putByte k a v).mask = s.mask := rfl
@[simp] theorem State.putByte_req (s : State) (k : Space) (a : Word) (v : Byte) : (s.putByte k a v).req = s.req := rfl
@[simp] theorem State.putByte_ie (s : State) (k : Space) (a : Word) (v : Byte) : (s.putByte k a v).ie = s.ie := rfl
@[simp] theorem State.putByte_sels (s : State) (k : Space) (a : Word) (v : Byte) : (s.putByte k a v).sels = s.sels := rfl
@[simp] theorem State.putByte_platform (s : State) (k : Space) (a : Word) (v : Byte) : (s.putByte k a v).platform = s.platform := rfl
@[simp] theorem State.putByte_irqEvents (s : State) (k : Space) (a : Word) (v : Byte) : (s.putByte k a v).irqEvents = s.irqEvents := rfl
@[simp] theorem State.putByte_busLog (s : State) (k : Space) (a : Word) (v : Byte) : (s.putByte k a v).busLog = s.busLog := rfl
@[simp] theorem State.putByte_draws (s : State) (k : Space) (a : Word) (v : Byte) : (s.putByte k a v).draws = s.draws := rfl
@[simp] theorem State.putByte_gpr (s : State) (k : Space) (a : Word) (v : Byte) (g : Gpr) :
    (s.putByte k a v).gpr g = s.gpr g := rfl
@[simp] theorem State.putByte_npc (s : State) (k : Space) (a : Word) (v : Byte) : (s.putByte k a v).npc = s.npc := rfl
@[simp] theorem State.putWord_regs (s : State) (k : Space) (a : Word) (v : Word) : (s.putWord k a v).regs = s.regs := rfl
@[simp] theorem State.putWord_sp (s : State) (k : Space) (a : Word) (v : Word) : (s.putWord k a v).sp = s.sp := rfl
@[simp] theorem State.putWord_pc (s : State) (k : Space) (a : Word) (v : Word) : (s.putWord k a v).pc = s.pc := rfl
@[simp] theorem State.putWord_flags (s : State) (k : Space) (a : Word) (v : Word) : (s.putWord k a v).flags = s.flags := rfl
@[simp] theorem State.putWord_mask (s : State) (k : Space) (a : Word) (v : Word) : (s.putWord k a v).mask = s.mask := rfl
@[simp] theorem State.putWord_req (s : State) (k : Space) (a : Word) (v : Word) : (s.putWord k a v).req = s.req := rfl
@[simp] theorem State.putWord_ie (s : State) (k : Space) (a : Word) (v : Word) : (s.putWord k a v).ie = s.ie := rfl
@[simp] theorem State.putWord_sels (s : State) (k : Space) (a : Word) (v : Word) : (s.putWord k a v).sels = s.sels := rfl
@[simp] theorem State.putWord_platform (s : State) (k : Space) (a : Word) (v : Word) : (s.putWord k a v).platform = s.platform := rfl
@[simp] theorem State.putWord_irqEvents (s : State) (k : Space) (a : Word) (v : Word) : (s.putWord k a v).irqEvents = s.irqEvents := rfl
@[simp] theorem State.putWord_busLog (s : State) (k : Space) (a : Word) (v : Word) : (s.putWord k a v).busLog = s.busLog := rfl
@[simp] theorem State.putWord_draws (s : State) (k : Space) (a : Word) (v : Word) : (s.putWord k a v).draws = s.draws := rfl
@[simp] theorem State.putWord_gpr (s : State) (k : Space) (a : Word) (v : Word) (g : Gpr) :
    (s.putWord k a v).gpr g = s.gpr g := rfl
@[simp] theorem State.putWord_npc (s : State) (k : Space) (a : Word) (v : Word) : (s.putWord k a v).npc = s.npc := rfl

theorem State.byteAt_putByte (s : State) (sp : Space) (a : Word) (v : Byte) (p : Phys) :
    (s.putByte sp a v).byteAt p = if p = s.translate sp a then v else s.byteAt p := by
  have : (p.toNat = (s.translate sp a).toNat) ↔ p = s.translate sp a := BitVec.toNat_inj
  simp only [State.putByte, State.byteAt, State.setMem_mem, Memory.read_write, this]

@[simp] theorem State.translate_putByte (s : State) (sp k : Space) (a b : Word) (v : Byte) :
    (s.putByte sp a v).translate k b = s.translate k b := rfl

@[simp] theorem State.translate_putWord (s : State) (sp k : Space) (a b : Word) (v : Word) :
    (s.putWord sp a v).translate k b = s.translate k b := rfl

@[simp] theorem State.writable_putByte (s : State) (sp : Space) (a : Word) (v : Byte) (p : Phys) :
    (s.putByte sp a v).writable p = s.writable p := rfl

@[simp] theorem State.readable_putByte (s : State) (sp : Space) (a : Word) (v : Byte) (p : Phys) :
    (s.putByte sp a v).readable p = s.readable p := rfl

@[simp] theorem State.canWriteWord_putWord (s : State) (sp k : Space) (a b v : Word) :
    (s.putWord sp a v).canWriteWord k b = s.canWriteWord k b := by
  simp only [State.canWriteWord, State.putWord, State.writable_putByte, State.translate_putByte]

@[simp] theorem State.canReadWord_putWord (s : State) (sp k : Space) (a b v : Word) :
    (s.putWord sp a v).canReadWord k b = s.canReadWord k b := by
  simp only [State.canReadWord, State.putWord, State.readable_putByte, State.translate_putByte]

/-- What a byte reads as after a word is put: its halves at the two addresses, the old byte elsewhere. -/
theorem State.byteAt_putWord (s : State) (sp : Space) (a v : Word) (p : Phys) :
    (s.putWord sp a v).byteAt p =
      if p = s.translate sp (a + 1) then v.extractLsb' 8 8
      else if p = s.translate sp a then v.extractLsb' 0 8
      else s.byteAt p := by
  simp only [State.putWord, State.byteAt_putByte, State.translate_putByte]

theorem State.putWord_mem_wf (s : State) (sp : Space) (a v : Word) (wf : s.mem.Wf) : (s.putWord sp a v).mem.Wf :=
  Memory.write_wf _ (BitVec.isLt _) (Memory.write_wf _ (BitVec.isLt _) wf)

theorem State.putByte_mem_wf (s : State) (sp : Space) (a : Word) (v : Byte) (wf : s.mem.Wf) :
    (s.putByte sp a v).mem.Wf := Memory.write_wf _ (BitVec.isLt _) wf

end Sys2Proof.Machine
end

