-- ==== Sys2Proof/Laws/Ops.lean ====
section
/-! SUPPORT. One lemma per shared operation: everything it can do when it answers. -/

namespace Sys2Proof.Machine

/-! ### The bus -/

/-- Whatever answers, a read changes nothing but what a device has seen. -/
theorem State.busRead_ok {s t : State} {p : Phys} {v : Byte} (h : s.busRead p = .ok (v, t)) :
    ∃ l, t = s.setBusLog l := by
  unfold State.busRead at h
  split at h <;> cases h
  · exact ⟨s.busLog, rfl⟩
  · exact ⟨s.busLog, rfl⟩
  · exact ⟨_, rfl⟩
  · exact ⟨s.busLog, rfl⟩

/-- Whatever answers, a write changes nothing but memory, whose canonical form it keeps, and what a device has seen. -/
theorem State.busWrite_ok {s t : State} {p : Phys} {v : Byte} (h : s.busWrite p v = .ok t) :
    ∃ m l, t = (s.setMem m).setBusLog l ∧ (s.mem.Wf → m.Wf) := by
  unfold State.busWrite at h
  split at h <;> cases h
  · exact ⟨_, s.busLog, rfl, Memory.write_wf v (BitVec.isLt _)⟩
  · exact ⟨s.mem, s.busLog, rfl, id⟩
  · exact ⟨s.mem, _, rfl, id⟩
  · exact ⟨s.mem, s.busLog, rfl, id⟩

theorem State.busRead_of_readable {s : State} {p : Phys} (h : s.readable p = true) :
    s.busRead p = .ok (s.byteAt p, s) := by
  unfold State.readable at h
  unfold State.busRead
  cases kind : kindAt s.platform p.toNat <;> simp_all

theorem State.busWrite_of_writable {s : State} {p : Phys} (v : Byte) (h : s.writable p = true) :
    s.busWrite p v = .ok (s.setMem (s.mem.write p.toNat v)) := by
  unfold State.writable at h
  unfold State.busWrite
  cases kind : kindAt s.platform p.toNat <;> simp_all

theorem State.busRead_of_device {s : State} {p : Phys} {d : Device} (h : kindAt s.platform p.toNat = .device d) :
    s.busRead p = .ok ((d.answer s.busLog { addr := p, width := .byte, written := none }).extractLsb' 0 8,
      s.deviceSees d { addr := p, width := .byte, written := none }) := by
  simp only [State.busRead, h]

theorem State.busWrite_of_device {s : State} {p : Phys} {d : Device} (v : Byte)
    (h : kindAt s.platform p.toNat = .device d) :
    s.busWrite p v = .ok (s.deviceSees d { addr := p, width := .byte, written := some (v.setWidth 16) }) := by
  simp only [State.busWrite, h]

theorem State.wordDevice_of_readable {s : State} {p : Phys} (q : Phys) (h : s.readable p = true) :
    s.wordDevice p q = none := by
  unfold State.readable at h
  unfold State.wordDevice
  cases kind : kindAt s.platform p.toNat <;> simp_all

theorem State.readable_of_writable {s : State} {p : Phys} (h : s.writable p = true) : s.readable p = true := by
  unfold State.writable at h
  unfold State.readable
  cases kind : kindAt s.platform p.toNat <;> simp_all

theorem State.wordDevice_of_device {s : State} {p q : Phys} {d : Device} (lo : kindAt s.platform p.toNat = .device d)
    (hi : kindAt s.platform q.toNat = .device d) : s.wordDevice p q = some d := by
  simp only [State.wordDevice, lo, hi, if_true]

/-! ### Bytes and words (R55 to R58, R60) -/

theorem State.readByte_of_readable {s : State} {sp : Space} {a : Word} (h : s.readable (s.translate sp a) = true) :
    s.readByte sp a = .ok (s.byteAt (s.translate sp a), s) := State.busRead_of_readable h

theorem State.writeByte_of_writable {s : State} {sp : Space} {a : Word} (v : Byte)
    (h : s.writable (s.translate sp a) = true) : s.writeByte sp a v = .ok (s.putByte sp a v) :=
  State.busWrite_of_writable v h

theorem State.canReadWord_iff (s : State) (sp : Space) (a : Word) :
    s.canReadWord sp a = true ↔ a.getLsbD 0 = false ∧ s.readable (s.translate sp a) = true ∧
      s.readable (s.translate sp (a + 1)) = true := by
  simp [State.canReadWord, and_assoc]

theorem State.canWriteWord_iff (s : State) (sp : Space) (a : Word) :
    s.canWriteWord sp a = true ↔ a.getLsbD 0 = false ∧ s.writable (s.translate sp a) = true ∧
      s.writable (s.translate sp (a + 1)) = true := by
  simp [State.canWriteWord, and_assoc]

theorem State.readWord_of_can {s : State} {sp : Space} {a : Word} (h : s.canReadWord sp a = true) :
    s.readWord sp a = .ok (s.wordAt sp a, s) := by
  obtain ⟨even, lo, hi⟩ := (s.canReadWord_iff sp a).mp h
  simp only [State.readWord, even, State.wordDevice_of_readable _ lo, State.readByte_of_readable lo,
    State.readByte_of_readable hi]
  rfl

theorem State.writeWord_of_can {s : State} {sp : Space} {a : Word} (v : Word) (h : s.canWriteWord sp a = true) :
    s.writeWord sp a v = .ok (s.putWord sp a v) := by
  obtain ⟨even, lo, hi⟩ := (s.canWriteWord_iff sp a).mp h
  have hi' : (s.putByte sp a (v.extractLsb' 0 8)).writable
      ((s.putByte sp a (v.extractLsb' 0 8)).translate sp (a + 1)) = true := hi
  simp only [State.writeWord, even, State.wordDevice_of_readable _ (State.readable_of_writable lo),
    State.writeByte_of_writable _ lo, State.writeByte_of_writable _ hi']
  rfl

/-- A device that has both bytes of a word answers it in one access. -/
theorem State.readWord_of_device {s : State} {sp : Space} {a : Word} {d : Device} (even : a.getLsbD 0 = false)
    (lo : kindAt s.platform (s.translate sp a).toNat = .device d)
    (hi : kindAt s.platform (s.translate sp (a + 1)).toNat = .device d) :
    s.readWord sp a = .ok (d.answer s.busLog { addr := s.translate sp a, width := .word, written := none },
      s.deviceSees d { addr := s.translate sp a, width := .word, written := none }) := by
  simp only [State.readWord, even, State.wordDevice_of_device lo hi]
  rfl

theorem State.writeWord_of_device {s : State} {sp : Space} {a : Word} {d : Device} (v : Word)
    (even : a.getLsbD 0 = false) (lo : kindAt s.platform (s.translate sp a).toNat = .device d)
    (hi : kindAt s.platform (s.translate sp (a + 1)).toNat = .device d) :
    s.writeWord sp a v = .ok (s.deviceSees d { addr := s.translate sp a, width := .word, written := some v }) := by
  simp only [State.writeWord, even, State.wordDevice_of_device lo hi]
  rfl

/-- Whatever answers, a completed word read is at an even address and changes nothing but what devices have seen. -/
theorem State.readWord_ok {s t : State} {sp : Space} {a v : Word} (h : s.readWord sp a = .ok (v, t)) :
    a.getLsbD 0 = false ∧ ∃ l, t = s.setBusLog l := by
  unfold State.readWord at h
  split at h
  · cases h
  · rename_i even
    refine ⟨Bool.eq_false_iff.mpr even, ?_⟩
    split at h
    · cases h
      exact ⟨_, rfl⟩
    · split at h
      · cases h
      · rename_i lo s1 hlo
        split at h
        · cases h
        · rename_i hi s2 hhi
          obtain ⟨l, rfl⟩ := State.busRead_ok hlo
          obtain ⟨k, rfl⟩ := State.busRead_ok hhi
          cases h
          exact ⟨k, rfl⟩

/-- Whatever answers, a completed word write is at an even address and changes nothing but memory, whose canonical form
it keeps, and what devices have seen. -/
theorem State.writeWord_ok {s t : State} {sp : Space} {a v : Word} (h : s.writeWord sp a v = .ok t) :
    a.getLsbD 0 = false ∧ ∃ m l, t = (s.setMem m).setBusLog l ∧ (s.mem.Wf → m.Wf) := by
  unfold State.writeWord at h
  split at h
  · cases h
  · rename_i even
    refine ⟨Bool.eq_false_iff.mpr even, ?_⟩
    split at h
    · cases h
      exact ⟨s.mem, _, rfl, id⟩
    · split at h
      · cases h
      · rename_i s1 h1
        obtain ⟨m, l, rfl, wf⟩ := State.busWrite_ok h1
        obtain ⟨n, k, rfl, wf'⟩ := State.busWrite_ok h
        exact ⟨n, k, rfl, fun start => wf' (wf start)⟩

theorem State.readWord_odd (s : State) (sp : Space) (a : Word) (odd : a.getLsbD 0 = true) :
    s.readWord sp a = .error (.misaligned sp a) := by
  simp only [State.readWord, odd, if_true]

theorem State.writeWord_odd (s : State) (sp : Space) (a v : Word) (odd : a.getLsbD 0 = true) :
    s.writeWord sp a v = .error (.misaligned sp a) := by
  simp only [State.writeWord, odd, if_true]

theorem State.fetch_of_can {s : State} (h : s.canReadWord .code s.pc = true) :
    s.fetch = .ok (s.wordAt .code s.pc, s) := State.readWord_of_can h

/-- A fetch changes nothing but what devices have seen. -/
theorem State.fetch_ok {s u : State} {w : Word} (h : s.fetch = .ok (w, u)) : ∃ l, u = s.setBusLog l :=
  (State.readWord_ok h).2

/-! ### Devices (92_eei_decisions.md D20; log 31) -/

/-- Where its table lists an access, a device gives the listed answer and goes to the listed state. -/
theorem Device.listed {d : Device} {log : List (Nat × Access)} {a : Access} {r : DeviceRule}
    (h : d.lineFor (d.stateAfter log) a = some r) :
    d.answer log a = r.answer ∧ d.stateAfter ((d.number, a) :: log) = r.next := by
  simp [Device.answer, Device.stateAfter, h]

/-- What another device sees leaves a device's state. -/
theorem Device.stateAfter_other (d : Device) {n : Nat} (a : Access) (log : List (Nat × Access)) (ne : n ≠ d.number) :
    d.stateAfter ((n, a) :: log) = d.stateAfter log := by
  simp only [Device.stateAfter, if_neg ne]

/-! ### Sequencing -/

theorem next_eq_next_iff (s t : State) : (Host.Outcome.next s : Result) = .next t ↔ t = s := by
  rw [Host.Outcome.next.injEq, eq_comm]

@[simp] theorem andThen_ok {α : Type} (v : α) (k : α → Result) : andThen (.ok v) k = k v := rfl
@[simp] theorem andThen_error {α : Type} (f : Fault) (k : α → Result) : andThen (.error f) k = .fault f := rfl

theorem andThen_next_iff {α : Type} (r : Except Fault α) (k : α → Result) (t : State) :
    andThen r k = .next t ↔ ∃ v, r = .ok v ∧ k v = .next t := by
  cases r <;> simp [andThen]

/-! ### The shared operations of the meanings

For each: when it completes and what it then gives, whatever answers on the bus (`…_next_iff`), and its result where
memory answers (`…_of_can`). -/

theorem loadByte_next_iff (s t : State) (d : Gpr) (sp : Space) (a : Word) :
    loadByte s d sp a = .next t ↔ ∃ v s1, s.readByte sp a = .ok (v, s1) ∧ t = s1.advance.setGpr d (v.setWidth 16) := by
  simp only [loadByte, andThen_next_iff, Prod.exists, next_eq_next_iff]

theorem loadByte_of_can {s : State} {sp : Space} {a : Word} (d : Gpr) (h : s.readable (s.translate sp a) = true) :
    loadByte s d sp a = .next (s.advance.setGpr d ((s.byteAt (s.translate sp a)).setWidth 16)) := by
  simp only [loadByte, State.readByte_of_readable h, andThen_ok]

theorem loadWord_next_iff (s t : State) (d : Reg) (sp : Space) (a : Word) :
    loadWord s d sp a = .next t ↔ ∃ v s1, s.readWord sp a = .ok (v, s1) ∧ t = s1.advance.setReg d v := by
  simp only [loadWord, andThen_next_iff, Prod.exists, next_eq_next_iff]

theorem loadWord_of_can {s : State} {sp : Space} {a : Word} (d : Reg) (h : s.canReadWord sp a = true) :
    loadWord s d sp a = .next (s.advance.setReg d (s.wordAt sp a)) := by
  simp only [loadWord, State.readWord_of_can h, andThen_ok]

theorem storeByte_next_iff (s t : State) (v : Word) (sp : Space) (a : Word) :
    storeByte s v sp a = .next t ↔ ∃ s1, s.writeByte sp a (v.extractLsb' 0 8) = .ok s1 ∧ t = s1.advance := by
  simp only [storeByte, andThen_next_iff, next_eq_next_iff]

theorem storeByte_of_can {s : State} {sp : Space} {a : Word} (v : Word) (h : s.writable (s.translate sp a) = true) :
    storeByte s v sp a = .next (s.putByte sp a (v.extractLsb' 0 8)).advance := by
  simp only [storeByte, State.writeByte_of_writable _ h, andThen_ok]

theorem storeWord_next_iff (s t : State) (v : Word) (sp : Space) (a : Word) :
    storeWord s v sp a = .next t ↔ ∃ s1, s.writeWord sp a v = .ok s1 ∧ t = s1.advance := by
  simp only [storeWord, andThen_next_iff, next_eq_next_iff]

theorem storeWord_of_can {s : State} {sp : Space} {a : Word} (v : Word) (h : s.canWriteWord sp a = true) :
    storeWord s v sp a = .next (s.putWord sp a v).advance := by
  simp only [storeWord, State.writeWord_of_can v h, andThen_ok]

theorem pushWordOp_next_iff (s t : State) (v : Word) :
    pushWordOp s v = .next t ↔ ∃ s1, s.writeWord .data (s.sp - 2) v = .ok s1 ∧ t = s1.advance.setSp (s.sp - 2) := by
  simp only [pushWordOp, andThen_next_iff, next_eq_next_iff]

theorem pushWordOp_of_can {s : State} (v : Word) (h : s.canWriteWord .data (s.sp - 2) = true) :
    pushWordOp s v = .next ((s.putWord .data (s.sp - 2) v).advance.setSp (s.sp - 2)) := by
  simp only [pushWordOp, State.writeWord_of_can v h, andThen_ok]

theorem memAlu_next_iff (f : Word → Word → Word × Flags) (d : Gpr) (b : Reg) (i : BitVec 7) (s t : State) :
    memAlu f d b i s = .next t ↔ ∃ m s1, s.readWord .data (s.eaImm b i) = .ok (m, s1) ∧
      t = ((s1.advance.setGpr .r5 m).setGpr d (f (s.gpr d) m).1).setFlags (f (s.gpr d) m).2 := by
  simp only [memAlu, andThen_next_iff, Prod.exists, next_eq_next_iff]

theorem memAlu_of_can (f : Word → Word → Word × Flags) (d : Gpr) {b : Reg} {i : BitVec 7} {s : State}
    (h : s.canReadWord .data (s.eaImm b i) = true) :
    memAlu f d b i s = .next (((s.advance.setGpr .r5 (s.wordAt .data (s.eaImm b i))).setGpr d
        (f (s.gpr d) (s.wordAt .data (s.eaImm b i))).1).setFlags (f (s.gpr d) (s.wordAt .data (s.eaImm b i))).2) := by
  simp only [memAlu, State.readWord_of_can h, andThen_ok]

theorem incMem_next_iff (r : Gpr) (a delta : Word) (s t : State) :
    incMem r a delta s = .next t ↔ ∃ m s1, s.readWord .data a = .ok (m, s1) ∧
      ∃ s2, s1.writeWord .data a (m + delta) = .ok s2 ∧
        t = ((s2.advance.setGpr r m).setFlags
          { c := s.freshFlag 0, z := m + delta == 0, s := (m + delta).getLsbD 15, o := s.freshFlag 1 }).drawn 2 := by
  simp only [incMem, andThen_next_iff, Prod.exists, next_eq_next_iff]

theorem incMem_of_can (r : Gpr) {a : Word} (delta : Word) {s : State} (read : s.canReadWord .data a = true)
    (write : s.canWriteWord .data a = true) :
    incMem r a delta s = .next ((((s.putWord .data a (s.wordAt .data a + delta)).advance.setGpr r
      (s.wordAt .data a)).setFlags
        { c := s.freshFlag 0, z := s.wordAt .data a + delta == 0, s := (s.wordAt .data a + delta).getLsbD 15
          o := s.freshFlag 1 }).drawn 2) := by
  simp only [incMem, State.readWord_of_can read, State.writeWord_of_can _ write, andThen_ok]

theorem State.interruptEntry_next_iff (s t : State) (vector savedpc : Word) :
    s.interruptEntry vector savedpc = .next t ↔
      ∃ s1, s.writeWord .data (s.sp - 2) (savedWord savedpc s.ie) = .ok s1 ∧ t = (s1.setIe false).setPc vector := by
  simp only [State.interruptEntry, andThen_next_iff, next_eq_next_iff]

theorem State.interruptEntry_of_can {s : State} (vector savedpc : Word) (h : s.canWriteWord .data (s.sp - 2) = true) :
    s.interruptEntry vector savedpc =
      .next (((s.putWord .data (s.sp - 2) (savedWord savedpc s.ie)).setIe false).setPc vector) := by
  simp only [State.interruptEntry, State.writeWord_of_can _ h, andThen_ok]

theorem State.interruptReturn_next_iff (s t : State) :
    s.interruptReturn = .next t ↔
      ∃ v s1, s.readWord .data (s.sp - 2) = .ok (v, s1) ∧ t = (s1.setIe (v.getLsbD 0)).setPc v := by
  simp only [State.interruptReturn, andThen_next_iff, Prod.exists, next_eq_next_iff]

theorem State.interruptReturn_of_can {s : State} (h : s.canReadWord .data (s.sp - 2) = true) :
    s.interruptReturn =
      .next ((s.setIe ((s.wordAt .data (s.sp - 2)).getLsbD 0)).setPc (s.wordAt .data (s.sp - 2))) := by
  simp only [State.interruptReturn, State.readWord_of_can h, andThen_ok]

theorem execPop_next_iff (r : Gpr) (s t : State) :
    execPop r s = .next t ↔
      ∃ v s1, s.readWord .data s.sp = .ok (v, s1) ∧ t = (s1.advance.setGpr r v).setSp (s.sp + 2) := by
  simp only [execPop, andThen_next_iff, Prod.exists, next_eq_next_iff]

theorem execPop_of_can (r : Gpr) {s : State} (h : s.canReadWord .data s.sp = true) :
    execPop r s = .next ((s.advance.setGpr r (s.wordAt .data s.sp)).setSp (s.sp + 2)) := by
  simp only [execPop, State.readWord_of_can h, andThen_ok]

theorem execLs5r_next_iff (r : Gpr) (s t : State) :
    execLs5r r s = .next t ↔ ∃ v5 s1, s.readWord .data s.sp = .ok (v5, s1) ∧
      ∃ v s2, s1.readWord .data (s.sp + 2) = .ok (v, s2) ∧ t = (s2.advance.setGpr .r5 v5).setGpr r v := by
  simp only [execLs5r, andThen_next_iff, Prod.exists, next_eq_next_iff]

theorem execLs5r_of_can (r : Gpr) {s : State} (lo : s.canReadWord .data s.sp = true)
    (hi : s.canReadWord .data (s.sp + 2) = true) :
    execLs5r r s =
      .next ((s.advance.setGpr .r5 (s.wordAt .data s.sp)).setGpr r (s.wordAt .data (s.sp + 2))) := by
  simp only [execLs5r, State.readWord_of_can lo, State.readWord_of_can hi, andThen_ok]

theorem execSs5r_next_iff (r : Gpr) (s t : State) :
    execSs5r r s = .next t ↔ ∃ s1, s.writeWord .data s.sp (s.gpr .r5) = .ok s1 ∧
      ∃ s2, s1.writeWord .data (s.sp + 2) (s.gpr r) = .ok s2 ∧ t = s2.advance := by
  simp only [execSs5r, andThen_next_iff, next_eq_next_iff]

theorem execSs5r_of_can (r : Gpr) {s : State} (lo : s.canWriteWord .data s.sp = true)
    (hi : s.canWriteWord .data (s.sp + 2) = true) :
    execSs5r r s =
      .next ((s.putWord .data s.sp (s.gpr .r5)).putWord .data (s.sp + 2) (s.gpr r)).advance := by
  have hi' : (s.putWord .data s.sp (s.gpr .r5)).canWriteWord .data (s.sp + 2) = true := by
    rw [State.canWriteWord_putWord, hi]
  simp only [execSs5r, State.writeWord_of_can _ lo, State.writeWord_of_can _ hi', andThen_ok]

theorem execMsr_next_iff (n : Gpr) (q : Reg) (s t : State) :
    execMsr n q s = .next t ↔ ∃ k, selectorNumber (s.gpr n) = some k ∧
      t = s.advance.setSels (s.sels.set k ((s.src q).extractLsb' 0 8)) := by
  unfold execMsr
  split <;> rename_i h <;> simp [h, eq_comm]

theorem execMrs_next_iff (d n : Gpr) (s t : State) :
    execMrs d n s = .next t ↔ ∃ k, selectorNumber (s.gpr n) = some k ∧
      t = s.advance.setGpr d ((s.sels.get k).setWidth 16) := by
  unfold execMrs
  split <;> rename_i h <;> simp [h, eq_comm]

/-! ### Latching and the step (R312, R313) -/

theorem State.latchIrq_cases (s : State) :
    (s.irqEvents = [] ∧ s.latchIrq = s) ∨
      ∃ e rest, s.irqEvents = e :: rest ∧ s.latchIrq = { s with req := s.req ||| e, irqEvents := rest } := by
  unfold State.latchIrq
  split <;> rename_i h
  · exact .inl ⟨h, rfl⟩
  · exact .inr ⟨_, _, h, rfl⟩

/-- Latching touches only REQ and the coming edges. -/
theorem State.latchIrq_frame (s : State) :
    s.latchIrq.regs = s.regs ∧ s.latchIrq.sp = s.sp ∧ s.latchIrq.pc = s.pc ∧ s.latchIrq.flags = s.flags ∧
      s.latchIrq.mask = s.mask ∧ s.latchIrq.ie = s.ie ∧ s.latchIrq.sels = s.sels ∧ s.latchIrq.mem = s.mem ∧
      s.latchIrq.platform = s.platform ∧ s.latchIrq.busLog = s.busLog ∧ s.latchIrq.draws = s.draws := by
  rcases s.latchIrq_cases with ⟨-, h⟩ | ⟨e, rest, -, h⟩ <;> rw [h] <;> simp

/-- A step is an interrupt entry or the execution of the fetched word. -/
theorem step_next_cases (s t : State) (h : step s = .next t) :
    (s.latchIrq.irqPending = true ∧ s.latchIrq.interruptEntry irqVector s.latchIrq.pc = .next t) ∨
      (s.latchIrq.irqPending = false ∧ ∃ w u, s.latchIrq.fetch = .ok (w, u) ∧ exec (decodeWord w) u = .next t) := by
  have unfolded : step s = if s.latchIrq.irqPending then s.latchIrq.interruptEntry irqVector s.latchIrq.pc
      else andThen s.latchIrq.fetch fun (w, u) => exec (decodeWord w) u := rfl
  rw [unfolded] at h
  split at h
  · rename_i pending
    exact .inl ⟨pending, h⟩
  · rename_i quiet
    obtain ⟨⟨w, u⟩, fetched, ran⟩ := (andThen_next_iff _ _ _).mp h
    exact .inr ⟨Bool.eq_false_iff.mpr quiet, w, u, fetched, ran⟩

end Sys2Proof.Machine
end

