-- ==== Sys2Proof/Laws/PerInstr.lean ====
section
/-! SUPPORT. A statement about every instruction: its word lies in the major opcode that the opcode map gives it. -/

namespace Sys2Proof.Laws

/-- The major opcode of an `addm` slot (R87). -/
def addmMajor (n : Nat) : BitVec 3 :=
  if n < 4 then 0b000 else if n < 8 then 0b010 else if n < 10 then 0b100 else if n < 12 then 0b101
  else if n < 14 then 0b011 else 0b111

/-- The major opcode of a `subm` group (R89). -/
def submMajor : Gpr → BitVec 3
  | .r0 => 0b010 | .r1 => 0b011 | .r2 => 0b011 | .r3 => 0b101 | .r4 => 0b111 | .r5 => 0b111

/-- The major opcode of `push r` (R91). -/
def pushMajor : Gpr → BitVec 3
  | .r0 => 0b010 | .r1 => 0b101 | .r2 => 0b010 | .r3 => 0b011 | .r4 => 0b011 | .r5 => 0b101

/-- The major opcode of an instruction in the opcode map (R92 to R99). -/
def majorOf : Instr → BitVec 3
  | .lbImm _ _ _ => 0b000
  | .andImm _ _ => 0b000
  | .orImm _ _ => 0b000
  | .addm d b _ => addmMajor (d.num * 6 + slotOf d b)
  | .lwImm _ _ _ => 0b001
  | .incmInd _ => 0b001
  | .decmInd _ => 0b001
  | .reservedIncm _ _ => 0b001
  | .adcz _ => 0b001
  | .sbImm _ _ _ => 0b010
  | .xorImm _ _ => 0b010
  | .cmpImm _ _ => 0b010
  | .pushReg r => pushMajor r
  | .subm d _ _ => submMajor d
  | .swImm _ _ _ => 0b011
  | .dincmInd _ => 0b011
  | .ddecmInd _ => 0b011
  | .reservedSwSp _ => 0b011
  | .addImm _ _ _ => 0b100
  | .addSp _ _ => 0b100
  | .swi _ => 0b100
  | .pushImm _ => 0b100
  | .addPc _ _ => 0b100
  | .addPcLink _ _ => 0b100
  | .li _ _ => 0b101
  | .addu _ _ => 0b101
  | .j _ => 0b101
  | .reservedLiSp _ => 0b101
  | .incmSp _ _ => 0b110
  | .decmSp _ _ => 0b110
  | .dincmSp _ _ => 0b110
  | .ddecmSp _ _ => 0b110
  | .ls5r _ => 0b110
  | .last _ => 0b110
  | .ss5r _ => 0b110
  | .reservedSs5r _ => 0b110
  | .reservedDincmSp _ _ => 0b110
  | .lurpc _ _ => 0b110
  | .jal _ => 0b110
  | .jc _ => 0b111
  | .jz _ => 0b111
  | .js _ => 0b111
  | .jleu _ => 0b111
  | .jl _ => 0b111
  | .jle _ => 0b111
  | .jo _ => 0b111
  | .jno _ => 0b111
  | .jnc _ => 0b111
  | .jnz _ => 0b111
  | .jns _ => 0b111
  | .jgu _ => 0b111
  | .jge _ => 0b111
  | .jg _ => 0b111
  | .mrs _ _ => 0b111
  | .stc => 0b111
  | .reservedMrs _ => 0b111
  | .zxt _ => 0b111
  | .sxt _ => 0b111
  | .cpl _ => 0b111
  | .neg _ => 0b111
  | .pop _ => 0b111
  | .mf2 => 0b111
  | .m2f => 0b111
  | .sac _ _ _ => 0b111
  | .srImm _ _ => 0b111
  | .slImm _ _ => 0b111
  | .asrImm _ _ => 0b111
  | .rlImm _ _ => 0b111
  | .reservedSr _ => 0b111
  | .reservedSl _ _ => 0b111
  | .reservedAsr _ => 0b111
  | .reservedRl _ => 0b111
  | .di => 0b111
  | .ei => 0b111
  | .reti => 0b111
  | .reservedHlt _ => 0b111
  | .add22adc33 => 0b111
  | .cadd24 => 0b111
  | .cadd24adc3z => 0b111
  | .csub34 => 0b111
  | .lbReg _ _ _ => 0b111
  | .lwReg _ _ _ => 0b111
  | .sbReg _ _ _ => 0b111
  | .swReg _ _ _ => 0b111
  | .srReg _ _ => 0b111
  | .slReg _ _ => 0b111
  | .rrReg _ _ => 0b111
  | .rlReg _ _ => 0b111
  | .asrReg _ _ => 0b111
  | .xorReg _ _ => 0b111
  | .andReg _ _ => 0b111
  | .orReg _ _ => 0b111
  | .adcReg _ _ => 0b111
  | .sbbReg _ _ => 0b111
  | .addReg _ _ => 0b111
  | .subReg _ _ => 0b111
  | .cmpReg _ _ => 0b111
  | .mov _ _ => 0b111
  | .msr _ _ => 0b111
  | .reservedRegReg _ _ _ _ _ => 0b111

/-- The top three bits of a word do not depend on what is appended below them. -/
theorem top_of_append {n m : Nat} (hi : BitVec n) (lo : BitVec m) (k : Nat) (below : m ≤ k) :
    (hi ++ lo).extractLsb' k 3 = hi.extractLsb' (k - m) 3 := BitVec.extractLsb'_append_eq_of_le below

/-- The word of `i` lies in the major opcode of `i`. -/
def MajorOpcode.Statement (i : Instr) : Prop := i.WellFormed → (encode i).extractLsb' 13 3 = majorOf i

theorem MajorOpcode.lbImm (d : Gpr) (b : Reg) (imm7 : BitVec 7) : MajorOpcode.Statement (.lbImm d b imm7) := by
  intro _
  refine (top_of_append (0b000#3 ++ d.bits ++ b.bits) imm7 13 (by decide)).trans ?_
  rw [top_of_append _ _ _ (by decide)]
  rw [top_of_append _ _ _ (by decide)]
  rfl

theorem MajorOpcode.andImm (r : Gpr) (imm7 : BitVec 7) : MajorOpcode.Statement (.andImm r imm7) := by
  intro _
  refine (top_of_append (0b000110#6 ++ r.bits) imm7 13 (by decide)).trans ?_
  rw [top_of_append _ _ _ (by decide)]
  rfl

theorem MajorOpcode.orImm (r : Gpr) (imm7 : BitVec 7) : MajorOpcode.Statement (.orImm r imm7) := by
  intro _
  refine (top_of_append (0b000111#6 ++ r.bits) imm7 13 (by decide)).trans ?_
  rw [top_of_append _ _ _ (by decide)]
  rfl

theorem MajorOpcode.addm (d : Gpr) (b : Reg) (imm7 : BitVec 7) : MajorOpcode.Statement (.addm d b imm7) := by
  intro wf
  refine (top_of_append (addmHigh (d.num * 6 + slotOf d b)) imm7 13 (by decide)).trans ?_
  simp only [Instr.WellFormed, Instr.wellFormed, Bool.and_eq_true] at wf
  have operands := wf.1
  simp only [majorOf]
  clear wf
  rcases b with g | _ | _
  · cases d <;> cases g <;> revert operands <;> decide
  · cases d <;> revert operands <;> decide
  · cases d <;> revert operands <;> decide

theorem MajorOpcode.lwImm (d : Reg) (b : Reg) (imm7 : BitVec 7) : MajorOpcode.Statement (.lwImm d b imm7) := by
  intro _
  refine (top_of_append (0b001#3 ++ d.bits ++ b.bits) imm7 13 (by decide)).trans ?_
  rw [top_of_append _ _ _ (by decide)]
  rw [top_of_append _ _ _ (by decide)]
  rfl

theorem MajorOpcode.incmInd (r : Gpr) : MajorOpcode.Statement (.incmInd r) := by
  intro _
  refine (top_of_append (0b001#3 ++ r.bits) 0b1100000001#10 13 (by decide)).trans ?_
  rw [top_of_append _ _ _ (by decide)]
  rfl

theorem MajorOpcode.decmInd (r : Gpr) : MajorOpcode.Statement (.decmInd r) := by
  intro _
  refine (top_of_append (0b001#3 ++ r.bits) 0b1101111111#10 13 (by decide)).trans ?_
  rw [top_of_append _ _ _ (by decide)]
  rfl

theorem MajorOpcode.reservedIncm (r : Gpr) (imm7 : BitVec 7) : MajorOpcode.Statement (.reservedIncm r imm7) := by
  intro _
  refine (top_of_append (0b001#3 ++ r.bits ++ 0b110#3) imm7 13 (by decide)).trans ?_
  rw [top_of_append _ _ _ (by decide)]
  rw [top_of_append _ _ _ (by decide)]
  rfl

theorem MajorOpcode.adcz (r : Gpr) : MajorOpcode.Statement (.adcz r) := by
  intro _
  refine (top_of_append (0b001#3 ++ r.bits) 0b1110000001#10 13 (by decide)).trans ?_
  rw [top_of_append _ _ _ (by decide)]
  rfl

theorem MajorOpcode.sbImm (r : Gpr) (b : Reg) (imm7 : BitVec 7) : MajorOpcode.Statement (.sbImm r b imm7) := by
  intro _
  refine (top_of_append (0b010#3 ++ r.bits ++ b.bits) imm7 13 (by decide)).trans ?_
  rw [top_of_append _ _ _ (by decide)]
  rw [top_of_append _ _ _ (by decide)]
  rfl

theorem MajorOpcode.xorImm (r : Gpr) (imm7 : BitVec 7) : MajorOpcode.Statement (.xorImm r imm7) := by
  intro _
  refine (top_of_append (0b010110#6 ++ r.bits) imm7 13 (by decide)).trans ?_
  rw [top_of_append _ _ _ (by decide)]
  rfl

theorem MajorOpcode.cmpImm (r : Gpr) (imm7 : BitVec 7) : MajorOpcode.Statement (.cmpImm r imm7) := by
  intro _
  refine (top_of_append (0b010111#6 ++ r.bits) imm7 13 (by decide)).trans ?_
  rw [top_of_append _ _ _ (by decide)]
  rfl

theorem MajorOpcode.pushReg (r : Gpr) : MajorOpcode.Statement (.pushReg r) := by
  intro _
  cases r <;> decide

theorem MajorOpcode.subm (d : Gpr) (b : Reg) (imm7 : BitVec 7) : MajorOpcode.Statement (.subm d b imm7) := by
  intro wf
  refine (top_of_append (submHigh d (BitVec.ofNat 3 (slotOf d b))) imm7 13 (by decide)).trans ?_
  simp only [Instr.WellFormed, Instr.wellFormed, Bool.and_eq_true] at wf
  have operands := wf.1
  simp only [majorOf]
  clear wf
  rcases b with g | _ | _
  · cases d <;> cases g <;> revert operands <;> decide
  · cases d <;> revert operands <;> decide
  · cases d <;> revert operands <;> decide

theorem MajorOpcode.swImm (r : Reg) (b : Reg) (imm7 : BitVec 7) : MajorOpcode.Statement (.swImm r b imm7) := by
  intro _
  refine (top_of_append (0b011#3 ++ r.bits ++ b.bits) imm7 13 (by decide)).trans ?_
  rw [top_of_append _ _ _ (by decide)]
  rw [top_of_append _ _ _ (by decide)]
  rfl

theorem MajorOpcode.dincmInd (r : Gpr) : MajorOpcode.Statement (.dincmInd r) := by
  intro _
  refine (top_of_append (0b011#3 ++ r.bits) 0b1100000001#10 13 (by decide)).trans ?_
  rw [top_of_append _ _ _ (by decide)]
  rfl

theorem MajorOpcode.ddecmInd (r : Gpr) : MajorOpcode.Statement (.ddecmInd r) := by
  intro _
  refine (top_of_append (0b011#3 ++ r.bits) 0b1110000001#10 13 (by decide)).trans ?_
  rw [top_of_append _ _ _ (by decide)]
  rfl

theorem MajorOpcode.reservedSwSp (imm7 : BitVec 7) : MajorOpcode.Statement (.reservedSwSp imm7) := by
  intro _
  refine (top_of_append 0b011110110#9 imm7 13 (by decide)).trans ?_
  rfl

theorem MajorOpcode.addImm (d : Gpr) (b : Reg) (imm7 : BitVec 7) : MajorOpcode.Statement (.addImm d b imm7) := by
  intro _
  refine (top_of_append (0b100#3 ++ d.bits ++ b.bits) imm7 13 (by decide)).trans ?_
  rw [top_of_append _ _ _ (by decide)]
  rw [top_of_append _ _ _ (by decide)]
  rfl

theorem MajorOpcode.addSp (b : Reg) (imm7 : BitVec 7) : MajorOpcode.Statement (.addSp b imm7) := by
  intro _
  refine (top_of_append (0b100110#6 ++ b.bits) imm7 13 (by decide)).trans ?_
  rw [top_of_append _ _ _ (by decide)]
  rfl

theorem MajorOpcode.swi (simm6 : BitVec 6) : MajorOpcode.Statement (.swi simm6) := by
  intro _
  refine (top_of_append (0b100110110#9 ++ simm6) 0b1#1 13 (by decide)).trans ?_
  rw [top_of_append _ _ _ (by decide)]
  rfl

theorem MajorOpcode.pushImm (imm7 : BitVec 7) : MajorOpcode.Statement (.pushImm imm7) := by
  intro _
  refine (top_of_append 0b100110111#9 imm7 13 (by decide)).trans ?_
  rfl

theorem MajorOpcode.addPc (b : Gpr) (imm7 : BitVec 7) : MajorOpcode.Statement (.addPc b imm7) := by
  intro _
  refine (top_of_append (0b100111#6 ++ b.bits) imm7 13 (by decide)).trans ?_
  rw [top_of_append _ _ _ (by decide)]
  rfl

theorem MajorOpcode.addPcLink (b : Gpr) (imm7 : BitVec 7) : MajorOpcode.Statement (.addPcLink b imm7) := by
  intro _
  refine (top_of_append (0b100111#6 ++ b.bits) imm7 13 (by decide)).trans ?_
  rw [top_of_append _ _ _ (by decide)]
  rfl

theorem MajorOpcode.li (d : Gpr) (imm9 : BitVec 9) : MajorOpcode.Statement (.li d imm9) := by
  intro _
  refine (top_of_append (0b101#3 ++ d.bits ++ 0b0#1) imm9 13 (by decide)).trans ?_
  rw [top_of_append _ _ _ (by decide)]
  rw [top_of_append _ _ _ (by decide)]
  rfl

theorem MajorOpcode.addu (d : Reg) (imm9 : BitVec 9) : MajorOpcode.Statement (.addu d imm9) := by
  intro _
  refine (top_of_append (0b101#3 ++ d.bits ++ 0b1#1) imm9 13 (by decide)).trans ?_
  rw [top_of_append _ _ _ (by decide)]
  rw [top_of_append _ _ _ (by decide)]
  rfl

theorem MajorOpcode.j (simm8 : BitVec 8) : MajorOpcode.Statement (.j simm8) := by
  intro _
  refine (top_of_append (0b1011100#7 ++ simm8) 0b1#1 13 (by decide)).trans ?_
  rw [top_of_append _ _ _ (by decide)]
  rfl

theorem MajorOpcode.reservedLiSp (x : BitVec 8) : MajorOpcode.Statement (.reservedLiSp x) := by
  intro _
  refine (top_of_append (0b1011100#7 ++ x) 0b0#1 13 (by decide)).trans ?_
  rw [top_of_append _ _ _ (by decide)]
  rfl

theorem MajorOpcode.incmSp (r : Gpr) (imm7 : BitVec 7) : MajorOpcode.Statement (.incmSp r imm7) := by
  intro _
  refine (top_of_append (0b110#3 ++ r.bits ++ 0b000#3) imm7 13 (by decide)).trans ?_
  rw [top_of_append _ _ _ (by decide)]
  rw [top_of_append _ _ _ (by decide)]
  rfl

theorem MajorOpcode.decmSp (r : Gpr) (imm7 : BitVec 7) : MajorOpcode.Statement (.decmSp r imm7) := by
  intro _
  refine (top_of_append (0b110#3 ++ r.bits ++ 0b001#3) imm7 13 (by decide)).trans ?_
  rw [top_of_append _ _ _ (by decide)]
  rw [top_of_append _ _ _ (by decide)]
  rfl

theorem MajorOpcode.dincmSp (r : Gpr) (imm7 : BitVec 7) : MajorOpcode.Statement (.dincmSp r imm7) := by
  intro _
  refine (top_of_append (0b110#3 ++ r.bits ++ 0b010#3) imm7 13 (by decide)).trans ?_
  rw [top_of_append _ _ _ (by decide)]
  rw [top_of_append _ _ _ (by decide)]
  rfl

theorem MajorOpcode.ddecmSp (r : Gpr) (imm7 : BitVec 7) : MajorOpcode.Statement (.ddecmSp r imm7) := by
  intro _
  refine (top_of_append (0b110#3 ++ r.bits ++ 0b011#3) imm7 13 (by decide)).trans ?_
  rw [top_of_append _ _ _ (by decide)]
  rw [top_of_append _ _ _ (by decide)]
  rfl

theorem MajorOpcode.ls5r (r : Gpr) : MajorOpcode.Statement (.ls5r r) := by
  intro _
  refine (top_of_append (0b110#3 ++ r.bits) 0b0000000001#10 13 (by decide)).trans ?_
  rw [top_of_append _ _ _ (by decide)]
  rfl

theorem MajorOpcode.last (imm6 : BitVec 6) : MajorOpcode.Statement (.last imm6) := by
  intro _
  refine (top_of_append (0b110101000#9 ++ imm6) 0b1#1 13 (by decide)).trans ?_
  rw [top_of_append _ _ _ (by decide)]
  rfl

theorem MajorOpcode.ss5r (r : Gpr) : MajorOpcode.Statement (.ss5r r) := by
  intro _
  refine (top_of_append (0b110#3 ++ r.bits) 0b0010000001#10 13 (by decide)).trans ?_
  rw [top_of_append _ _ _ (by decide)]
  rfl

theorem MajorOpcode.reservedSs5r (x : BitVec 6) : MajorOpcode.Statement (.reservedSs5r x) := by
  intro _
  refine (top_of_append (0b110101001#9 ++ x) 0b1#1 13 (by decide)).trans ?_
  rw [top_of_append _ _ _ (by decide)]
  rfl

theorem MajorOpcode.reservedDincmSp (r : Gpr) (x : BitVec 7) : MajorOpcode.Statement (.reservedDincmSp r x) := by
  intro _
  refine (top_of_append (0b110#3 ++ r.bits ++ 0b01#2 ++ x) 0b1#1 13 (by decide)).trans ?_
  rw [top_of_append _ _ _ (by decide)]
  rw [top_of_append _ _ _ (by decide)]
  rw [top_of_append _ _ _ (by decide)]
  rfl

theorem MajorOpcode.lurpc (d : Gpr) (imm9 : BitVec 9) : MajorOpcode.Statement (.lurpc d imm9) := by
  intro _
  refine (top_of_append (0b110#3 ++ d.bits ++ 0b1#1) imm9 13 (by decide)).trans ?_
  rw [top_of_append _ _ _ (by decide)]
  rw [top_of_append _ _ _ (by decide)]
  rfl

theorem MajorOpcode.jal (simm11 : BitVec 11) : MajorOpcode.Statement (.jal simm11) := by
  intro _
  refine (top_of_append 0b11011#5 simm11 13 (by decide)).trans ?_
  rfl

theorem MajorOpcode.jc (imm7 : BitVec 7) : MajorOpcode.Statement (.jc imm7) := by
  intro _
  refine (top_of_append 0b111000000#9 imm7 13 (by decide)).trans ?_
  rfl

theorem MajorOpcode.jz (imm7 : BitVec 7) : MajorOpcode.Statement (.jz imm7) := by
  intro _
  refine (top_of_append 0b111001000#9 imm7 13 (by decide)).trans ?_
  rfl

theorem MajorOpcode.js (imm7 : BitVec 7) : MajorOpcode.Statement (.js imm7) := by
  intro _
  refine (top_of_append 0b111010000#9 imm7 13 (by decide)).trans ?_
  rfl

theorem MajorOpcode.jleu (imm7 : BitVec 7) : MajorOpcode.Statement (.jleu imm7) := by
  intro _
  refine (top_of_append 0b111011000#9 imm7 13 (by decide)).trans ?_
  rfl

theorem MajorOpcode.jl (imm7 : BitVec 7) : MajorOpcode.Statement (.jl imm7) := by
  intro _
  refine (top_of_append 0b111100000#9 imm7 13 (by decide)).trans ?_
  rfl

theorem MajorOpcode.jle (imm7 : BitVec 7) : MajorOpcode.Statement (.jle imm7) := by
  intro _
  refine (top_of_append 0b111101000#9 imm7 13 (by decide)).trans ?_
  rfl

theorem MajorOpcode.jo (imm7 : BitVec 7) : MajorOpcode.Statement (.jo imm7) := by
  intro _
  refine (top_of_append 0b111110000#9 imm7 13 (by decide)).trans ?_
  rfl

theorem MajorOpcode.jno (imm7 : BitVec 7) : MajorOpcode.Statement (.jno imm7) := by
  intro _
  refine (top_of_append 0b111111000#9 imm7 13 (by decide)).trans ?_
  rfl

theorem MajorOpcode.jnc (imm7 : BitVec 7) : MajorOpcode.Statement (.jnc imm7) := by
  intro _
  refine (top_of_append 0b111000001#9 imm7 13 (by decide)).trans ?_
  rfl

theorem MajorOpcode.jnz (imm7 : BitVec 7) : MajorOpcode.Statement (.jnz imm7) := by
  intro _
  refine (top_of_append 0b111001001#9 imm7 13 (by decide)).trans ?_
  rfl

theorem MajorOpcode.jns (imm7 : BitVec 7) : MajorOpcode.Statement (.jns imm7) := by
  intro _
  refine (top_of_append 0b111010001#9 imm7 13 (by decide)).trans ?_
  rfl

theorem MajorOpcode.jgu (imm7 : BitVec 7) : MajorOpcode.Statement (.jgu imm7) := by
  intro _
  refine (top_of_append 0b111011001#9 imm7 13 (by decide)).trans ?_
  rfl

theorem MajorOpcode.jge (imm7 : BitVec 7) : MajorOpcode.Statement (.jge imm7) := by
  intro _
  refine (top_of_append 0b111100001#9 imm7 13 (by decide)).trans ?_
  rfl

theorem MajorOpcode.jg (imm7 : BitVec 7) : MajorOpcode.Statement (.jg imm7) := by
  intro _
  refine (top_of_append 0b111101001#9 imm7 13 (by decide)).trans ?_
  rfl

theorem MajorOpcode.mrs (d : Gpr) (sel : Gpr) : MajorOpcode.Statement (.mrs d sel) := by
  intro _
  refine (top_of_append (0b11111#5 ++ BitVec.ofNat 1 (mrsNumber d sel / 16) ++ 0b001#3 ++ BitVec.ofNat 4 (mrsNumber d sel % 16)) 0b111#3 13 (by decide)).trans ?_
  rw [top_of_append _ _ _ (by decide)]
  rw [top_of_append _ _ _ (by decide)]
  rw [top_of_append _ _ _ (by decide)]
  rfl

theorem MajorOpcode.stc : MajorOpcode.Statement (.stc) := by
  intro _
  decide

theorem MajorOpcode.reservedMrs (x : BitVec 3) : MajorOpcode.Statement (.reservedMrs x) := by
  intro _
  refine (top_of_append 0b1111110011111#13 x 13 (by decide)).trans ?_
  rfl

theorem MajorOpcode.zxt (r : Gpr) : MajorOpcode.Statement (.zxt r) := by
  intro _
  refine (top_of_append (0b111110100#9 ++ r.bits) 0b0111#4 13 (by decide)).trans ?_
  rw [top_of_append _ _ _ (by decide)]
  rfl

theorem MajorOpcode.sxt (r : Gpr) : MajorOpcode.Statement (.sxt r) := by
  intro _
  refine (top_of_append (0b111110100#9 ++ r.bits) 0b1111#4 13 (by decide)).trans ?_
  rw [top_of_append _ _ _ (by decide)]
  rfl

theorem MajorOpcode.cpl (r : Gpr) : MajorOpcode.Statement (.cpl r) := by
  intro _
  refine (top_of_append (0b111111100#9 ++ r.bits) 0b0111#4 13 (by decide)).trans ?_
  rw [top_of_append _ _ _ (by decide)]
  rfl

theorem MajorOpcode.neg (r : Gpr) : MajorOpcode.Statement (.neg r) := by
  intro _
  refine (top_of_append (0b111111100#9 ++ r.bits) 0b1111#4 13 (by decide)).trans ?_
  rw [top_of_append _ _ _ (by decide)]
  rfl

theorem MajorOpcode.pop (r : Gpr) : MajorOpcode.Statement (.pop r) := by
  intro _
  refine (top_of_append (0b11111#5 ++ r.bits.extractLsb' 2 1 ++ 0b10011#5 ++ r.bits.extractLsb' 0 2) 0b111#3 13 (by decide)).trans ?_
  rw [top_of_append _ _ _ (by decide)]
  rw [top_of_append _ _ _ (by decide)]
  rw [top_of_append _ _ _ (by decide)]
  rfl

theorem MajorOpcode.mf2 : MajorOpcode.Statement (.mf2) := by
  intro _
  decide

theorem MajorOpcode.m2f : MajorOpcode.Statement (.m2f) := by
  intro _
  decide

theorem MajorOpcode.sac (d : Gpr) (p : Gpr) (imm4 : BitVec 4) : MajorOpcode.Statement (.sac d p imm4) := by
  intro _
  refine (top_of_append (0b111#3 ++ d.bits ++ 0b101#3 ++ p.bits) imm4 13 (by decide)).trans ?_
  rw [top_of_append _ _ _ (by decide)]
  rw [top_of_append _ _ _ (by decide)]
  rw [top_of_append _ _ _ (by decide)]
  rfl

theorem MajorOpcode.srImm (r : Gpr) (imm4 : BitVec 4) : MajorOpcode.Statement (.srImm r imm4) := by
  intro _
  refine (top_of_append (0b111110101#9 ++ r.bits) imm4 13 (by decide)).trans ?_
  rw [top_of_append _ _ _ (by decide)]
  rfl

theorem MajorOpcode.slImm (r : Gpr) (imm4 : BitVec 4) : MajorOpcode.Statement (.slImm r imm4) := by
  intro _
  refine (top_of_append (0b111111101#9 ++ r.bits) imm4 13 (by decide)).trans ?_
  rw [top_of_append _ _ _ (by decide)]
  rfl

theorem MajorOpcode.asrImm (r : Gpr) (imm4 : BitVec 4) : MajorOpcode.Statement (.asrImm r imm4) := by
  intro _
  refine (top_of_append (0b111#3 ++ r.bits ++ 0b101110#6) imm4 13 (by decide)).trans ?_
  rw [top_of_append _ _ _ (by decide)]
  rw [top_of_append _ _ _ (by decide)]
  rfl

theorem MajorOpcode.rlImm (r : Gpr) (imm4 : BitVec 4) : MajorOpcode.Statement (.rlImm r imm4) := by
  intro _
  refine (top_of_append (0b111#3 ++ r.bits ++ 0b101111#6) imm4 13 (by decide)).trans ?_
  rw [top_of_append _ _ _ (by decide)]
  rw [top_of_append _ _ _ (by decide)]
  rfl

theorem MajorOpcode.reservedSr (r : Gpr) : MajorOpcode.Statement (.reservedSr r) := by
  intro _
  refine (top_of_append (0b111110101#9 ++ r.bits) 0b0000#4 13 (by decide)).trans ?_
  rw [top_of_append _ _ _ (by decide)]
  rfl

theorem MajorOpcode.reservedSl (r : Gpr) (k : BitVec 1) : MajorOpcode.Statement (.reservedSl r k) := by
  intro _
  refine (top_of_append (0b111111101#9 ++ r.bits ++ 0b000#3) k 13 (by decide)).trans ?_
  rw [top_of_append _ _ _ (by decide)]
  rw [top_of_append _ _ _ (by decide)]
  rfl

theorem MajorOpcode.reservedAsr (r : Gpr) : MajorOpcode.Statement (.reservedAsr r) := by
  intro _
  refine (top_of_append (0b111#3 ++ r.bits) 0b1011100000#10 13 (by decide)).trans ?_
  rw [top_of_append _ _ _ (by decide)]
  rfl

theorem MajorOpcode.reservedRl (r : Gpr) : MajorOpcode.Statement (.reservedRl r) := by
  intro _
  refine (top_of_append (0b111#3 ++ r.bits) 0b1011110000#10 13 (by decide)).trans ?_
  rw [top_of_append _ _ _ (by decide)]
  rfl

theorem MajorOpcode.di : MajorOpcode.Statement (.di) := by
  intro _
  decide

theorem MajorOpcode.ei : MajorOpcode.Statement (.ei) := by
  intro _
  decide

theorem MajorOpcode.reti : MajorOpcode.Statement (.reti) := by
  intro _
  decide

theorem MajorOpcode.reservedHlt (x : BitVec 3) : MajorOpcode.Statement (.reservedHlt x) := by
  intro _
  refine (top_of_append 0b1111101011111#13 x 13 (by decide)).trans ?_
  rfl

theorem MajorOpcode.add22adc33 : MajorOpcode.Statement (.add22adc33) := by
  intro _
  decide

theorem MajorOpcode.cadd24 : MajorOpcode.Statement (.cadd24) := by
  intro _
  decide

theorem MajorOpcode.cadd24adc3z : MajorOpcode.Statement (.cadd24adc3z) := by
  intro _
  decide

theorem MajorOpcode.csub34 : MajorOpcode.Statement (.csub34) := by
  intro _
  decide

theorem MajorOpcode.lbReg (d : Gpr) (p : Gpr) (q : Reg) : MajorOpcode.Statement (.lbReg d p q) := by
  intro _
  refine (top_of_append (0b111#3 ++ d.bits ++ 0b110#3 ++ p.bits ++ 0b0#1) q.bits 13 (by decide)).trans ?_
  rw [top_of_append _ _ _ (by decide)]
  rw [top_of_append _ _ _ (by decide)]
  rw [top_of_append _ _ _ (by decide)]
  rw [top_of_append _ _ _ (by decide)]
  rfl

theorem MajorOpcode.lwReg (d : Reg) (p : Gpr) (q : Reg) : MajorOpcode.Statement (.lwReg d p q) := by
  intro _
  refine (top_of_append (0b111#3 ++ d.bits ++ 0b111#3 ++ p.bits ++ 0b0#1) q.bits 13 (by decide)).trans ?_
  rw [top_of_append _ _ _ (by decide)]
  rw [top_of_append _ _ _ (by decide)]
  rw [top_of_append _ _ _ (by decide)]
  rw [top_of_append _ _ _ (by decide)]
  rfl

theorem MajorOpcode.sbReg (r : Gpr) (p : Gpr) (q : Reg) : MajorOpcode.Statement (.sbReg r p q) := by
  intro _
  refine (top_of_append (0b111#3 ++ r.bits ++ 0b110#3 ++ p.bits ++ 0b1#1) q.bits 13 (by decide)).trans ?_
  rw [top_of_append _ _ _ (by decide)]
  rw [top_of_append _ _ _ (by decide)]
  rw [top_of_append _ _ _ (by decide)]
  rw [top_of_append _ _ _ (by decide)]
  rfl

theorem MajorOpcode.swReg (r : Reg) (p : Gpr) (q : Reg) : MajorOpcode.Statement (.swReg r p q) := by
  intro _
  refine (top_of_append (0b111#3 ++ r.bits ++ 0b111#3 ++ p.bits ++ 0b1#1) q.bits 13 (by decide)).trans ?_
  rw [top_of_append _ _ _ (by decide)]
  rw [top_of_append _ _ _ (by decide)]
  rw [top_of_append _ _ _ (by decide)]
  rw [top_of_append _ _ _ (by decide)]
  rfl

theorem MajorOpcode.srReg (r : Gpr) (q : Reg) : MajorOpcode.Statement (.srReg r q) := by
  intro _
  refine (top_of_append (0b111#3 ++ r.bits ++ 0b1101100#7) q.bits 13 (by decide)).trans ?_
  rw [top_of_append _ _ _ (by decide)]
  rw [top_of_append _ _ _ (by decide)]
  rfl

theorem MajorOpcode.slReg (r : Gpr) (q : Reg) : MajorOpcode.Statement (.slReg r q) := by
  intro _
  refine (top_of_append (0b111#3 ++ r.bits ++ 0b1101101#7) q.bits 13 (by decide)).trans ?_
  rw [top_of_append _ _ _ (by decide)]
  rw [top_of_append _ _ _ (by decide)]
  rfl

theorem MajorOpcode.rrReg (r : Gpr) (q : Reg) : MajorOpcode.Statement (.rrReg r q) := by
  intro _
  refine (top_of_append (0b111#3 ++ r.bits ++ 0b1111100#7) q.bits 13 (by decide)).trans ?_
  rw [top_of_append _ _ _ (by decide)]
  rw [top_of_append _ _ _ (by decide)]
  rfl

theorem MajorOpcode.rlReg (r : Gpr) (q : Reg) : MajorOpcode.Statement (.rlReg r q) := by
  intro _
  refine (top_of_append (0b111#3 ++ r.bits ++ 0b1111101#7) q.bits 13 (by decide)).trans ?_
  rw [top_of_append _ _ _ (by decide)]
  rw [top_of_append _ _ _ (by decide)]
  rfl

theorem MajorOpcode.asrReg (r : Gpr) (q : Reg) : MajorOpcode.Statement (.asrReg r q) := by
  intro _
  refine (top_of_append (0b111#3 ++ r.bits ++ 0b1101110#7) q.bits 13 (by decide)).trans ?_
  rw [top_of_append _ _ _ (by decide)]
  rw [top_of_append _ _ _ (by decide)]
  rfl

theorem MajorOpcode.xorReg (r : Gpr) (q : Reg) : MajorOpcode.Statement (.xorReg r q) := by
  intro _
  refine (top_of_append (0b111#3 ++ r.bits ++ 0b1101111#7) q.bits 13 (by decide)).trans ?_
  rw [top_of_append _ _ _ (by decide)]
  rw [top_of_append _ _ _ (by decide)]
  rfl

theorem MajorOpcode.andReg (r : Gpr) (q : Reg) : MajorOpcode.Statement (.andReg r q) := by
  intro _
  refine (top_of_append (0b111#3 ++ r.bits ++ 0b1111110#7) q.bits 13 (by decide)).trans ?_
  rw [top_of_append _ _ _ (by decide)]
  rw [top_of_append _ _ _ (by decide)]
  rfl

theorem MajorOpcode.orReg (r : Gpr) (q : Reg) : MajorOpcode.Statement (.orReg r q) := by
  intro _
  refine (top_of_append (0b111#3 ++ r.bits ++ 0b1111111#7) q.bits 13 (by decide)).trans ?_
  rw [top_of_append _ _ _ (by decide)]
  rw [top_of_append _ _ _ (by decide)]
  rfl

theorem MajorOpcode.adcReg (r : Gpr) (q : Reg) : MajorOpcode.Statement (.adcReg r q) := by
  intro _
  refine (top_of_append (0b111110110#9 ++ r.bits ++ 0b0#1) q.bits 13 (by decide)).trans ?_
  rw [top_of_append _ _ _ (by decide)]
  rw [top_of_append _ _ _ (by decide)]
  rfl

theorem MajorOpcode.sbbReg (r : Gpr) (q : Reg) : MajorOpcode.Statement (.sbbReg r q) := by
  intro _
  refine (top_of_append (0b111110110#9 ++ r.bits ++ 0b1#1) q.bits 13 (by decide)).trans ?_
  rw [top_of_append _ _ _ (by decide)]
  rw [top_of_append _ _ _ (by decide)]
  rfl

theorem MajorOpcode.addReg (r : Gpr) (q : Reg) : MajorOpcode.Statement (.addReg r q) := by
  intro _
  refine (top_of_append (0b111111110#9 ++ r.bits ++ 0b0#1) q.bits 13 (by decide)).trans ?_
  rw [top_of_append _ _ _ (by decide)]
  rw [top_of_append _ _ _ (by decide)]
  rfl

theorem MajorOpcode.subReg (r : Gpr) (q : Reg) : MajorOpcode.Statement (.subReg r q) := by
  intro _
  refine (top_of_append (0b111111110#9 ++ r.bits ++ 0b1#1) q.bits 13 (by decide)).trans ?_
  rw [top_of_append _ _ _ (by decide)]
  rw [top_of_append _ _ _ (by decide)]
  rfl

theorem MajorOpcode.cmpReg (r : Gpr) (q : Reg) : MajorOpcode.Statement (.cmpReg r q) := by
  intro _
  refine (top_of_append (0b111111111#9 ++ r.bits ++ 0b1#1) q.bits 13 (by decide)).trans ?_
  rw [top_of_append _ _ _ (by decide)]
  rw [top_of_append _ _ _ (by decide)]
  rfl

theorem MajorOpcode.mov (d : Gpr) (q : Reg) : MajorOpcode.Statement (.mov d q) := by
  intro _
  refine (top_of_append (0b111#3 ++ d.bits ++ 0b110#3 ++ d.bits ++ 0b1#1) q.bits 13 (by decide)).trans ?_
  rw [top_of_append _ _ _ (by decide)]
  rw [top_of_append _ _ _ (by decide)]
  rw [top_of_append _ _ _ (by decide)]
  rw [top_of_append _ _ _ (by decide)]
  rfl

theorem MajorOpcode.msr (sel : Gpr) (q : Reg) : MajorOpcode.Statement (.msr sel q) := by
  intro _
  refine (top_of_append (0b111#3 ++ sel.bits ++ 0b111#3 ++ sel.bits ++ 0b1#1) q.bits 13 (by decide)).trans ?_
  rw [top_of_append _ _ _ (by decide)]
  rw [top_of_append _ _ _ (by decide)]
  rw [top_of_append _ _ _ (by decide)]
  rw [top_of_append _ _ _ (by decide)]
  rfl

theorem MajorOpcode.reservedRegReg (r : BitVec 1) (w : BitVec 1) (p : BitVec 1) (l : BitVec 1) (q : BitVec 3) : MajorOpcode.Statement (.reservedRegReg r w p l q) := by
  intro _
  refine (top_of_append (0b11111#5 ++ r ++ 0b11#2 ++ w ++ 0b11#2 ++ p ++ l) q 13 (by decide)).trans ?_
  rw [top_of_append _ _ _ (by decide)]
  rw [top_of_append _ _ _ (by decide)]
  rw [top_of_append _ _ _ (by decide)]
  rw [top_of_append _ _ _ (by decide)]
  rw [top_of_append _ _ _ (by decide)]
  rw [top_of_append _ _ _ (by decide)]
  rfl

end Sys2Proof.Laws
end

