-- ==== Sys2Proof/Tests/Slice0.lean ====
section
/-! SUPPORT. Tests: ill-formed terms are refused, words written out from the spec's encodings decode to the
instruction the spec gives them, one step per instruction gives what the spec's vectors say
(96_test_vectors_derived.md, whose numbers are named), and every statement's hypotheses can be met. -/

namespace Sys2Proof.Machine

/-- `s` with a little-endian word at a physical address. -/
def State.holdingWord (s : State) (a : Phys) (v : Word) : State :=
  (s.pokeByte a (v.extractLsb' 0 8)).pokeByte (a + 1) (v.extractLsb' 8 8)

/-- The little-endian word at a physical address. -/
def State.heldWord (s : State) (a : Phys) : Word := s.byteAt (a + 1) ++ s.byteAt a

end Sys2Proof.Machine

namespace Sys2Proof.Tests

open Sys2Proof.Machine

/-- The flags written in the order C, Z, S, O. -/
def czso (v : BitVec 4) : Flags :=
  { c := v.getLsbD 3, z := v.getLsbD 2, s := v.getLsbD 1, o := v.getLsbD 0 }

/-- The default state of the spec's vectors: pc = 0100, sp = 3F00, both spaces mapped to physical address = logical
address, everything else zero. -/
def base : State :=
  { State.reset with
    pc := 0x0100
    sp := 0x3F00
    sels := { sel0 := 0, sel1 := 1, sel2 := 2, sel3 := 3, sel4 := 0, sel5 := 1, sel6 := 2, sel7 := 3 } }

/-- The next state, where there is one. -/
def nextOf : Result → Option State
  | .next t => some t
  | .fault _ => none
  | .refused _ => none

/-- The fault, where there is one. -/
def faultOf : Result → Option Fault
  | .next _ => none
  | .fault f => some f
  | .refused _ => none

/-- The refusal, where there is one. -/
def refusalOf : Result → Option Refusal
  | .next _ => none
  | .fault _ => none
  | .refused r => some r

/-- The state after the instruction of a word. -/
def ran (w : Word) (s : State) : Option State := nextOf (exec (decodeWord w) s)

/-- The state after one step. -/
def stepped (s : State) : Option State := nextOf (step s)

/-! ### Ill-formed terms are refused -/

/-- Slot-coded operands: dst not r5, src not pc, src not dst, an odd offset from sp only where the slot has it. -/
theorem test_illformed_addm_subm :
    ¬ (Instr.addm .r5 .sp 0).WellFormed ∧ ¬ (Instr.addm .r0 .pc 0).WellFormed ∧
      ¬ (Instr.addm .r1 (.gpr .r1) 0).WellFormed ∧ ¬ (Instr.addm .r0 .sp 1).WellFormed ∧
      ¬ (Instr.addm .r1 .sp 1).WellFormed ∧ ¬ (Instr.subm .r5 .sp 0).WellFormed ∧
      ¬ (Instr.subm .r0 .pc 0).WellFormed ∧ ¬ (Instr.subm .r2 (.gpr .r2) 0).WellFormed ∧
      ¬ (Instr.subm .r3 .sp 1).WellFormed := by decide

theorem test_illformed_lw :
    ¬ (Instr.lwImm (.gpr .r0) .sp 1).WellFormed ∧ ¬ (Instr.lwImm (.gpr .r0) .pc 1).WellFormed := by decide

theorem test_illformed_stores :
    ¬ (Instr.sbImm .r1 (.gpr .r1) 0).WellFormed ∧ ¬ (Instr.swImm .pc (.gpr .r1) 0).WellFormed ∧
      ¬ (Instr.swImm (.gpr .r1) (.gpr .r1) 0).WellFormed ∧ ¬ (Instr.swImm .sp .sp 0).WellFormed ∧
      ¬ (Instr.swImm (.gpr .r1) .sp 1).WellFormed ∧ ¬ (Instr.swImm (.gpr .r1) .pc 1).WellFormed ∧
      ¬ (Instr.sbReg .r1 .r1 .sp).WellFormed ∧ ¬ (Instr.swReg .pc .r1 .sp).WellFormed ∧
      ¬ (Instr.swReg (.gpr .r1) .r1 .sp).WellFormed := by decide

theorem test_illformed_add :
    ¬ (Instr.addSp .pc 0).WellFormed ∧ ¬ (Instr.addSp .sp 1).WellFormed ∧ ¬ (Instr.addPc .r0 1).WellFormed ∧
      ¬ (Instr.addPcLink .r0 2).WellFormed ∧ ¬ (Instr.addu .pc 0).WellFormed := by decide

theorem test_illformed_sp_relative :
    ¬ (Instr.incmSp .r0 1).WellFormed ∧ ¬ (Instr.decmSp .r0 3).WellFormed ∧ ¬ (Instr.dincmSp .r0 5).WellFormed ∧
      ¬ (Instr.ddecmSp .r0 7).WellFormed ∧ ¬ (Instr.ls5r .r5).WellFormed ∧ ¬ (Instr.ss5r .r5).WellFormed := by decide

theorem test_illformed_counts_and_pairs :
    ¬ (Instr.mrs .r2 .r2).WellFormed ∧ ¬ (Instr.srImm .r0 0).WellFormed ∧ ¬ (Instr.slImm .r0 0).WellFormed ∧
      ¬ (Instr.slImm .r0 1).WellFormed ∧ ¬ (Instr.asrImm .r0 0).WellFormed ∧ ¬ (Instr.rlImm .r0 0).WellFormed ∧
      ¬ (Instr.reservedIncm .r0 1).WellFormed ∧ ¬ (Instr.reservedIncm .r0 127).WellFormed ∧
      ¬ (Instr.reservedIncm .r0 2).WellFormed := by decide

/-! ### Words of every row, written from the encodings of 30_encoding.md -/

/-- Words of major 000 (R92). -/
theorem test_decode_major0 :
    decodeWord 0b0000010100000011 = .lbImm .r1 (.gpr .r2) 3 ∧
      decodeWord 0b0001100000000111 = .andImm .r0 7 ∧
      decodeWord 0b0001111011111111 = .orImm .r5 127 ∧
      decodeWord 0b0001101100000010 = .addm .r0 (.gpr .r1) 2 ∧
      decodeWord 0b0001101110000010 = .addm .r0 (.gpr .r2) 2 ∧
      decodeWord 0b0001111100000010 = .addm .r0 (.gpr .r3) 2 ∧
      decodeWord 0b0001111110000010 = .addm .r0 (.gpr .r4) 2 := by decide

/-- Words of major 001 (R93). -/
theorem test_decode_major1 :
    decodeWord 0b0011001110000100 = .lwImm (.gpr .r4) .pc 4 ∧
      decodeWord 0b0011110000000000 = .lwImm .pc (.gpr .r0) 0 ∧
      decodeWord 0b0011101110000001 = .lwImm .sp .pc 1 ∧
      decodeWord 0b0010011100000001 = .incmInd .r1 ∧
      decodeWord 0b0010011101111111 = .decmInd .r1 ∧
      decodeWord 0b0010011100000011 = .reservedIncm .r1 3 ∧
      decodeWord 0b0010101110000001 = .adcz .r2 ∧
      decodeWord 0b0010101111010101 = .adcz .r2 := by decide

/-- Words of major 010 (R94). -/
theorem test_decode_major2 :
    decodeWord 0b0100010100000001 = .sbImm .r1 (.gpr .r2) 1 ∧
      decodeWord 0b0100000000000000 = .subm .r0 (.gpr .r1) 0 ∧
      decodeWord 0b0101011010000000 = .subm .r0 .sp 0 ∧
      decodeWord 0b0101011010000001 = .pushReg .r2 ∧
      decodeWord 0b0101100001111111 = .xorImm .r0 127 ∧
      decodeWord 0b0101110001111111 = .cmpImm .r0 127 ∧
      decodeWord 0b0101101100000010 = .addm .r0 (.gpr .r5) 2 ∧
      decodeWord 0b0101101110000010 = .addm .r0 .sp 2 ∧
      decodeWord 0b0101101110000001 = .pushReg .r0 ∧
      decodeWord 0b0101111100000011 = .addm .r1 (.gpr .r0) 3 ∧
      decodeWord 0b0101111110000011 = .addm .r1 (.gpr .r2) 3 := by decide

/-- Words of major 011 (R95). -/
theorem test_decode_major3 :
    decodeWord 0b0110011101111110 = .swImm (.gpr .r1) .sp 126 ∧
      decodeWord 0b0111100000000010 = .swImm .sp (.gpr .r0) 2 ∧
      decodeWord 0b0110101100000001 = .dincmInd .r2 ∧
      decodeWord 0b0110101110000001 = .ddecmInd .r2 ∧
      decodeWord 0b0111101110000001 = .swImm .sp .pc 1 ∧
      decodeWord 0b0111101100000000 = .reservedSwSp 0 ∧
      decodeWord 0b0110000000000010 = .subm .r1 (.gpr .r0) 2 ∧
      decodeWord 0b0110010010000010 = .subm .r1 (.gpr .r2) 2 ∧
      decodeWord 0b0111011010000001 = .pushReg .r3 ∧
      decodeWord 0b0111110100000010 = .subm .r2 (.gpr .r3) 2 ∧
      decodeWord 0b0111111010000001 = .pushReg .r4 ∧
      decodeWord 0b0111111100000010 = .addm .r2 (.gpr .r0) 2 ∧
      decodeWord 0b0111111110000010 = .addm .r2 (.gpr .r1) 2 := by decide

/-- Words of major 100 (R96). -/
theorem test_decode_major4 :
    decodeWord 0b1000000011111111 = .addImm .r0 (.gpr .r1) 127 ∧
      decodeWord 0b1001101010000000 = .addSp (.gpr .r5) 0 ∧
      decodeWord 0b1001101101111000 = .addSp .sp 120 ∧
      decodeWord 0b1001101100000101 = .swi 2 ∧
      decodeWord 0b1001101111111111 = .pushImm 127 ∧
      decodeWord 0b1001110110000000 = .addPc .r3 0 ∧
      decodeWord 0b1001110110000001 = .addPcLink .r3 1 ∧
      decodeWord 0b1001111100000010 = .addm .r1 (.gpr .r3) 2 ∧
      decodeWord 0b1001111110000010 = .addm .r1 (.gpr .r4) 2 := by decide

/-- Words of major 101 (R97). -/
theorem test_decode_major5 :
    decodeWord 0b1011010001111110 = .li .r5 126 ∧
      decodeWord 0b1011001001001110 = .addu (.gpr .r4) 78 ∧
      decodeWord 0b1011101000000001 = .addu .sp 1 ∧
      decodeWord 0b1011100111111111 = .j 255 ∧
      decodeWord 0b1011100000000000 = .reservedLiSp 0 ∧
      decodeWord 0b1011110110000010 = .subm .r3 (.gpr .r4) 2 ∧
      decodeWord 0b1011111011111110 = .subm .r3 .sp 126 ∧
      decodeWord 0b1011111010000001 = .pushReg .r5 ∧
      decodeWord 0b1011111100000010 = .addm .r1 (.gpr .r5) 2 ∧
      decodeWord 0b1011111110000010 = .addm .r1 .sp 2 ∧
      decodeWord 0b1011111110000001 = .pushReg .r1 := by decide

/-- Words of major 110 (R98). -/
theorem test_decode_major6 :
    decodeWord 0b1100010000000100 = .incmSp .r1 4 ∧
      decodeWord 0b1100010010000000 = .decmSp .r1 0 ∧
      decodeWord 0b1101010100000010 = .dincmSp .r5 2 ∧
      decodeWord 0b1100000111111110 = .ddecmSp .r0 126 ∧
      decodeWord 0b1101000000000001 = .ls5r .r4 ∧
      decodeWord 0b1101010000001001 = .last 4 ∧
      decodeWord 0b1101000010000001 = .ss5r .r4 ∧
      decodeWord 0b1101010010000001 = .reservedSs5r 0 ∧
      decodeWord 0b1100000100000001 = .reservedDincmSp .r0 0 ∧
      decodeWord 0b1100000110000001 = .reservedDincmSp .r0 64 ∧
      decodeWord 0b1101011000000001 = .lurpc .r5 1 ∧
      decodeWord 0b1101100000001101 = .jal 13 ∧
      decodeWord 0b1101110000000000 = .jal 1024 := by decide

/-- Words of the jumps of major 111 (R99). -/
theorem test_decode_jumps :
    decodeWord 0b1110000000001000 = .jc 8 ∧
      decodeWord 0b1110010000001000 = .jz 8 ∧
      decodeWord 0b1110100000001000 = .js 8 ∧
      decodeWord 0b1110110000001000 = .jleu 8 ∧
      decodeWord 0b1111000000001000 = .jl 8 ∧
      decodeWord 0b1111010000001000 = .jle 8 ∧
      decodeWord 0b1111100000001000 = .jo 8 ∧
      decodeWord 0b1111110000001000 = .jno 8 ∧
      decodeWord 0b1110000010001000 = .jnc 8 ∧
      decodeWord 0b1110010010001000 = .jnz 8 ∧
      decodeWord 0b1110100010001000 = .jns 8 ∧
      decodeWord 0b1110110010001000 = .jgu 8 ∧
      decodeWord 0b1111000010001000 = .jge 8 ∧
      decodeWord 0b1111010010001000 = .jg 8 := by decide

/-- Words of major 111, bits 9:7 = 001 to 100 (R99). -/
theorem test_decode_mrs_slots_unary :
    decodeWord 0b1111100010101111 = .mrs .r1 .r0 ∧
      decodeWord 0b1111110011011111 = .mrs .r5 .r2 ∧
      decodeWord 0b1111110011110111 = .stc ∧
      decodeWord 0b1111110011111111 = .reservedMrs 7 ∧
      decodeWord 0b1111110110000100 = .addm .r4 .sp 4 ∧
      decodeWord 0b1110000101111110 = .addm .r2 (.gpr .r3) 126 ∧
      decodeWord 0b1111001000000010 = .subm .r4 (.gpr .r5) 2 ∧
      decodeWord 0b1111101000100111 = .zxt .r2 ∧
      decodeWord 0b1111101000101111 = .sxt .r2 ∧
      decodeWord 0b1111111000100111 = .cpl .r2 ∧
      decodeWord 0b1111111001001111 = .neg .r4 ∧
      decodeWord 0b1111101001100111 = .pop .r0 ∧
      decodeWord 0b1111111001101111 = .pop .r5 ∧
      decodeWord 0b1111111001110111 = .mf2 ∧
      decodeWord 0b1111111001111111 = .m2f := by decide

/-- Words of major 111, bits 9:7 = 101 (R99). -/
theorem test_decode_shift_immediates :
    decodeWord 0b1110101011010011 = .sac .r2 .r5 3 ∧
      decodeWord 0b1111101010011111 = .srImm .r1 15 ∧
      decodeWord 0b1111111010010111 = .slImm .r1 7 ∧
      decodeWord 0b1110011011100001 = .asrImm .r1 1 ∧
      decodeWord 0b1110011011111000 = .rlImm .r1 8 ∧
      decodeWord 0b1111101010010000 = .reservedSr .r1 ∧
      decodeWord 0b1111111010010001 = .reservedSl .r1 1 ∧
      decodeWord 0b1110011011100000 = .reservedAsr .r1 ∧
      decodeWord 0b1110011011110000 = .reservedRl .r1 ∧
      decodeWord 0b1111101011100111 = .di ∧
      decodeWord 0b1111101011101111 = .ei ∧
      decodeWord 0b1111101011110111 = .reti ∧
      decodeWord 0b1111101011111111 = .reservedHlt 7 ∧
      decodeWord 0b1111111011100111 = .add22adc33 ∧
      decodeWord 0b1111111011101111 = .cadd24 ∧
      decodeWord 0b1111111011110111 = .cadd24adc3z ∧
      decodeWord 0b1111111011111111 = .csub34 := by decide

/-- Words of the register-register forms of major 111 (R99). -/
theorem test_decode_register_register :
    decodeWord 0b1110011100100011 = .lbReg .r1 .r2 (.gpr .r3) ∧
      decodeWord 0b1110011110100111 = .lwReg (.gpr .r1) .r2 .pc ∧
      decodeWord 0b1111101110100011 = .lwReg .sp .r2 (.gpr .r3) ∧
      decodeWord 0b1111111110100011 = .lwReg .pc .r2 (.gpr .r3) ∧
      decodeWord 0b1110011100101011 = .sbReg .r1 .r2 (.gpr .r3) ∧
      decodeWord 0b1110111111001011 = .swReg (.gpr .r3) .r4 (.gpr .r3) ∧
      decodeWord 0b1111101110101011 = .swReg .sp .r2 (.gpr .r3) ∧
      decodeWord 0b1110011101100010 = .srReg .r1 (.gpr .r2) ∧
      decodeWord 0b1110011101101010 = .slReg .r1 (.gpr .r2) ∧
      decodeWord 0b1110011111100010 = .rrReg .r1 (.gpr .r2) ∧
      decodeWord 0b1110011111101010 = .rlReg .r1 (.gpr .r2) ∧
      decodeWord 0b1110011101110010 = .asrReg .r1 (.gpr .r2) ∧
      decodeWord 0b1110001101111000 = .xorReg .r0 (.gpr .r0) ∧
      decodeWord 0b1110001111110001 = .andReg .r0 (.gpr .r1) ∧
      decodeWord 0b1110001111111001 = .orReg .r0 (.gpr .r1) ∧
      decodeWord 0b1111101100000001 = .adcReg .r0 (.gpr .r1) ∧
      decodeWord 0b1111101100001001 = .sbbReg .r0 (.gpr .r1) ∧
      decodeWord 0b1111111100000001 = .addReg .r0 (.gpr .r1) ∧
      decodeWord 0b1111111100001001 = .subReg .r0 (.gpr .r1) ∧
      decodeWord 0b1111111110001001 = .cmpReg .r0 (.gpr .r1) ∧
      decodeWord 0b1110101100101111 = .mov .r2 .pc ∧
      decodeWord 0b1110001110001001 = .msr .r0 (.gpr .r1) ∧
      decodeWord 0b1111101101100101 = .reservedRegReg 0 0 0 0 5 ∧
      decodeWord 0b1111111111111111 = .reservedRegReg 1 1 1 1 7 := by decide

/-- The byte decoder takes the low byte first and refuses a lone byte (R59, R80). -/
theorem test_decode_bytes :
    decode [0x03, 0x05, 0xAA] = .ok (.lbImm .r1 (.gpr .r2) 3, [0xAA]) ∧ decode [0x03] = .error .truncated ∧
      decodeTableWord 16 0x0503 = some (.lbImm .r1 (.gpr .r2) 3) := by decide

/-- Canonical words as the spec prints them (95_test_vectors.md, 96_test_vectors_derived.md). -/
theorem test_encode_words :
    encode (.adcz .r2) = 0x2B81 ∧ encode (.pushReg .r3) = 0x7681 ∧ encode (.mrs .r5 .r4) = 0xFCEF ∧
      encode (.pop .r5) = 0xFE6F ∧ encode .stc = 0xFCF7 ∧ encode (.addm .r4 .sp 4) = 0xFD84 ∧
      encode (.subm .r3 .sp 126) = 0xBEFE ∧ encode (.zxt .r2) = 0xFA27 := by decide

/-- The mini's words (96_test_vectors_derived.md section 2.11, vectors Q2, Q14, Q27, Q41, Q47). -/
theorem test_decode_mini :
    decodeMini 0x2704 = .lw (.gpr .r1) .sp 4 ∧ decodeMini 0xA020 = .shared (.li .r0 16) ∧
      decodeMini 0xFF09 = .shared (.jnz 124) ∧ decodeMini 0xE570 = .shared (.lwReg (.gpr .r1) .r2 .pc) ∧
      decodeMini 0x1B01 = .reserved 0x1B01 := by decide

/-- The two encodings differ on the word 0x237E (section 2.11, last vector). -/
theorem test_mini_signed_offset :
    (nextOf (stepWith .mini (((base.holdingWord 0x100 0x237E).holdingWord 0x3EFE 0x1234).holdingWord 0x3F7E 0x5678))).map
        (fun t => t.gpr .r0) = some 0x1234 ∧
      (nextOf (stepWith .full (((base.holdingWord 0x100 0x237E).holdingWord 0x3EFE 0x1234).holdingWord 0x3F7E 0x5678))).map
        (fun t => t.gpr .r0) = some 0x5678 := by decide

/-! ### One step per instruction -/

/-- `lb r1, (r2 + -1)`, vector L2. -/
theorem test_lbImm_L2 :
    (ran 0x057F (((base.setGpr .r1 0xAAAA).setGpr .r2 0x2000).pokeByte 0x1FFF 0xFF)).map (fun t => (t.gpr .r1, t.flags)) =
      some (0x00FF, czso 0b0000) := by decide

/-- `lb r1, (pc + 3)`, vector L4. -/
theorem test_lbImm_L4 :
    (ran 0x0783 (base.pokeByte 0x0105 0x77)).map (fun t => (t.gpr .r1, t.flags)) =
      some (0x0077, czso 0b0000) := by decide

/-- `and r0, 127`, vector A28. -/
theorem test_andImm_A28 :
    (ran 0x187F (base.setGpr .r0 0xFFFF)).map (fun t => (t.gpr .r0, t.flags)) =
      some (0x007F, czso 0b0000) := by decide

/-- `or r0, 64`, vector A31. -/
theorem test_orImm_A31 :
    (ran 0x1C40 (base)).map (fun t => (t.gpr .r0, t.flags)) =
      some (0x0040, czso 0b0000) := by decide

/-- `addm r0, (r1 + 2)`, vector M1. -/
theorem test_addm_M1 :
    (ran 0x1B02 (((base.setGpr .r0 0x0001).setGpr .r1 0x2000).holdingWord 0x2002 0xFFFF)).map (fun t => (t.gpr .r0, t.gpr .r5, t.flags)) =
      some (0x0000, 0xFFFF, czso 0b1100) := by decide

/-- `addm r0, (r5 + 0)`, vector M2. -/
theorem test_addm_M2 :
    (ran 0x5B00 (((base.setGpr .r0 0x7FFF).setGpr .r5 0x2000).holdingWord 0x2000 0x0001)).map (fun t => (t.gpr .r0, t.gpr .r5, t.flags)) =
      some (0x8000, 0x0001, czso 0b0011) := by decide

/-- `lw r1, (r2 + -64)`, vector L8. -/
theorem test_lwImm_L8 :
    (ran 0x2540 ((base.setGpr .r2 0x2040).holdingWord 0x2000 0xBEEF)).map (fun t => (t.gpr .r1, t.flags)) =
      some (0xBEEF, czso 0b0000) := by decide

/-- `lw sp, (r0 + 0)`, vector L13. -/
theorem test_lwImm_L13 :
    (ran 0x3800 ((base.setGpr .r0 0x2000).holdingWord 0x2000 0x1235)).map (fun t => (t.sp, t.flags)) =
      some (0x1234, czso 0b0000) := by decide

/-- `incm (r1)`, vector M9. -/
theorem test_incmInd_M9 :
    (ran 0x2701 ((base.setGpr .r1 0x2000).holdingWord 0x2000 0xFFFF)).map (fun t => (t.gpr .r1, t.flags.z, t.flags.s, t.heldWord 0x2000)) =
      some (0xFFFF, true, false, 0x0000) := by decide

/-- `decm (r1)`, vector M10. -/
theorem test_decmInd_M10 :
    (ran 0x277F ((base.setGpr .r1 0x2000).holdingWord 0x2000 0x0000)).map (fun t => (t.gpr .r1, t.flags.z, t.flags.s, t.heldWord 0x2000)) =
      some (0x0000, false, true, 0xFFFF) := by decide

/-- `adcz r2`, vector A10. -/
theorem test_adcz_A10 :
    (ran 0x2B81 ((base.setGpr .r2 0xFFFF).setFlags (czso 0b1000))).map (fun t => (t.gpr .r2, t.flags)) =
      some (0x0000, czso 0b1100) := by decide

/-- `sb r1, (r2 + 1)`, vector L23. -/
theorem test_sbImm_L23 :
    (ran 0x4501 (((base.setGpr .r1 0x1234).setGpr .r2 0x2000).holdingWord 0x2000 0xAAAA)).map (fun t => (t.flags, t.byteAt 0x2001)) =
      some (czso 0b0000, 0x34) := by decide

/-- `xor r0, 127`, vector A33. -/
theorem test_xorImm_A33 :
    (ran 0x587F (base.setGpr .r0 0xFFFF)).map (fun t => (t.gpr .r0, t.flags)) =
      some (0xFF80, czso 0b0010) := by decide

/-- `cmp r0, -1`, vector A22. -/
theorem test_cmpImm_A22 :
    (ran 0x5C7F (base.setGpr .r0 0xFFFF)).map (fun t => (t.pc, t.flags)) =
      some (0x0102, czso 0b0100) := by decide

/-- `push r3`, vector S7. -/
theorem test_pushReg_S7 :
    (ran 0x7681 ((base.setGpr .r3 0xABCD).setSp 0x0000)).map (fun t => (t.sp, t.flags, t.heldWord 0xFFFE)) =
      some (0xFFFE, czso 0b0000, 0xABCD) := by decide

/-- `subm r0, (r1 + 0)`, vector M6. -/
theorem test_subm_M6 :
    (ran 0x4000 ((base.setGpr .r1 0x2000).holdingWord 0x2000 0x0001)).map (fun t => (t.gpr .r0, t.gpr .r5, t.flags)) =
      some (0xFFFF, 0x0001, czso 0b1010) := by decide

/-- `subm r3, (sp + 126)`, vector M7. -/
theorem test_subm_M7 :
    (ran 0xBEFE ((base.setGpr .r3 0x8000).holdingWord 0x3F7E 0x0001)).map (fun t => (t.gpr .r3, t.gpr .r5, t.flags)) =
      some (0x7FFF, 0x0001, czso 0b0001) := by decide

/-- `sw r1, (sp + 126)`, vector L26. -/
theorem test_swImm_L26 :
    (ran 0x677E (base.setGpr .r1 0x1234)).map (fun t => (t.flags, t.heldWord 0x3F7E)) =
      some (czso 0b0000, 0x1234) := by decide

/-- `sw r1, (pc + 2)`, vector L30. -/
theorem test_swImm_L30 :
    (ran 0x6782 ((base.setGpr .r1 0xB801).setSels (base.sels.set 4 0x04))).map (fun t => (t.flags, t.heldWord 0x0104)) =
      some (czso 0b0000, 0xB801) := by decide

/-- `dincm (r2)`, vector M12. -/
theorem test_dincmInd_M12 :
    (ran 0x6B01 ((base.setGpr .r2 0x2000).holdingWord 0x2000 0xFFFE)).map (fun t => (t.gpr .r2, t.flags.z, t.flags.s, t.heldWord 0x2000)) =
      some (0xFFFE, true, false, 0x0000) := by decide

/-- `ddecm (r2)`, vector M13. -/
theorem test_ddecmInd_M13 :
    (ran 0x6B81 ((base.setGpr .r2 0x2000).holdingWord 0x2000 0x0001)).map (fun t => (t.gpr .r2, t.flags.z, t.flags.s, t.heldWord 0x2000)) =
      some (0x0001, false, true, 0xFFFF) := by decide

/-- `add r0, r1, 63`, vector A35. -/
theorem test_addImm_A35 :
    (ran 0x80BF (base.setGpr .r1 0x7FC1)).map (fun t => (t.gpr .r0, t.flags)) =
      some (0x8000, czso 0b0011) := by decide

/-- `add r0, pc, -2`, vector A37. -/
theorem test_addImm_A37 :
    (ran 0x83FE (base)).map (fun t => (t.gpr .r0, t.flags)) =
      some (0x0100, czso 0b1000) := by decide

/-- `add sp, r1, 5`, vector A41. -/
theorem test_addSp_A41 :
    (ran 0x9885 (base.setGpr .r1 0x2000)).map (fun t => (t.sp, t.flags)) =
      some (0x2004, czso 0b0000) := by decide

/-- `add sp, sp, -8`, vector A39. -/
theorem test_addSp_A39 :
    (ran 0x9B78 (base.setFlags (czso 0b1111))).map (fun t => (t.sp, t.flags)) =
      some (0x3EF8, czso 0b1111) := by decide

/-- `swi 2`, vector Y1. -/
theorem test_swi_Y1 :
    (ran 0x9B05 (base.setIe true)).map (fun t => (t.pc, t.flags, t.ie, t.heldWord 0x3EFE)) =
      some (0x0004, czso 0b0000, false, 0x0101) := by decide

/-- `swi -1`, vector Y3. -/
theorem test_swi_Y3 :
    (ran 0x9B7F (base.setIe true)).map (fun t => (t.pc, t.flags, t.ie, t.heldWord 0x3EFE)) =
      some (0xFFFE, czso 0b0000, false, 0x0101) := by decide

/-- `push -1`, vector S2. -/
theorem test_pushImm_S2 :
    (ran 0x9BFF (base)).map (fun t => (t.sp, t.flags, t.heldWord 0x3EFE)) =
      some (0x3EFE, czso 0b0000, 0xFFFF) := by decide

/-- `add pc, r3, 0`, vector J50. -/
theorem test_addPc_J50 :
    (ran 0x9D80 (base.setGpr .r3 0x2001)).map (fun t => (t.pc, t.flags)) =
      some (0x2000, czso 0b0000) := by decide

/-- `add pc, r5, -3`, vector J49. -/
theorem test_addPcLink_J49 :
    (ran 0x9EFD (base.setGpr .r5 0x2000)).map (fun t => (t.gpr .r5, t.pc, t.flags)) =
      some (0x0102, 0x1FFC, czso 0b0000) := by decide

/-- `add pc, r5, 1`, vector J48. -/
theorem test_addPcLink_J48 :
    (ran 0x9E81 (base.setGpr .r5 0x2000)).map (fun t => (t.gpr .r5, t.pc, t.flags)) =
      some (0x0102, 0x2000, czso 0b0000) := by decide

/-- `li r3, -1`, vector V2. -/
theorem test_li_V2 :
    (ran 0xADFF (base.setFlags (czso 0b1111))).map (fun t => (t.gpr .r3, t.flags)) =
      some (0xFFFF, czso 0b1111) := by decide

/-- `addu r4, 78`, vector A42. -/
theorem test_addu_A42 :
    (ran 0xB24E (base.setGpr .r4 0x0010)).map (fun t => (t.gpr .r4, t.flags)) =
      some (0x2710, czso 0b0000) := by decide

/-- `addu sp, 1`, vector A46. -/
theorem test_addu_A46 :
    (ran 0xBA01 (base.setFlags (czso 0b1010))).map (fun t => (t.sp, t.flags)) =
      some (0x3F80, czso 0b1010) := by decide

/-- `j -128`, vector J4. -/
theorem test_j_J4 :
    (ran 0xB901 (base)).map (fun t => (t.pc, t.flags)) =
      some (0x0002, czso 0b0000) := by decide

/-- `j 1`, vector J5. -/
theorem test_j_J5 :
    (ran 0xB803 (base.setPc 0xFFFE)).map (fun t => (t.pc, t.flags)) =
      some (0x0002, czso 0b0000) := by decide

/-- `incm r1, (sp + 4)`, vector M16. -/
theorem test_incmSp_M16 :
    (ran 0xC404 (base.holdingWord 0x3F04 0x0009)).map (fun t => (t.gpr .r1, t.flags.z, t.flags.s, t.heldWord 0x3F04)) =
      some (0x0009, false, false, 0x000A) := by decide

/-- `decm r1, (sp + 0)`, vector M17. -/
theorem test_decmSp_M17 :
    (ran 0xC480 (base.holdingWord 0x3F00 0x0001)).map (fun t => (t.gpr .r1, t.flags.z, t.flags.s, t.heldWord 0x3F00)) =
      some (0x0001, true, false, 0x0000) := by decide

/-- `dincm r5, (sp + 2)`, vector M20. -/
theorem test_dincmSp_M20 :
    (ran 0xD502 (base.holdingWord 0x3F02 0xFFFF)).map (fun t => (t.gpr .r5, t.flags.z, t.flags.s, t.heldWord 0x3F02)) =
      some (0xFFFF, false, false, 0x0001) := by decide

/-- `ddecm r0, (sp + 126)`, vector M19. -/
theorem test_ddecmSp_M19 :
    (ran 0xC1FE (base.holdingWord 0x3F7E 0x8001)).map (fun t => (t.gpr .r0, t.flags.z, t.flags.s, t.heldWord 0x3F7E)) =
      some (0x8001, false, false, 0x7FFF) := by decide

/-- `ls5r r4`, vector S13. -/
theorem test_ls5r_S13 :
    (ran 0xD001 (((base.setSp 0x3EF8).holdingWord 0x3EF8 0x0106).holdingWord 0x3EFA 0x4444)).map (fun t => (t.gpr .r4, t.gpr .r5, t.flags)) =
      some (0x4444, 0x0106, czso 0b0000) := by decide

/-- `last 126`, vector J55. -/
theorem test_last_J55 :
    (ran 0xD47F ((base.setGpr .r5 0x0107).setSp 0x3E00)).map (fun t => (t.sp, t.pc, t.flags)) =
      some (0x3E7E, 0x0106, czso 0b0000) := by decide

/-- `ss5r r4`, vector S12. -/
theorem test_ss5r_S12 :
    (ran 0xD081 (((base.setGpr .r4 0x4444).setGpr .r5 0x5555).setSp 0x3EF8)).map (fun t => (t.flags, t.heldWord 0x3EF8, t.heldWord 0x3EFA)) =
      some (czso 0b0000, 0x5555, 0x4444) := by decide

/-- `lurpc r5, 511`, vector W2. -/
theorem test_lurpc_W2 :
    (ran 0xD7FF (base)).map (fun t => (t.gpr .r5, t.flags)) =
      some (0x0082, czso 0b0000) := by decide

/-- `jal -1024`, vector J43. -/
theorem test_jal_J43 :
    (ran 0xDC00 (base.setPc 0x1000)).map (fun t => (t.gpr .r5, t.pc, t.flags)) =
      some (0x1002, 0x0802, czso 0b0000) := by decide

/-- `jc 8`, vector J6. -/
theorem test_jc_J6 :
    (ran 0xE008 (base.setFlags (czso 0b1000))).map (fun t => (t.pc, t.flags)) =
      some (0x0112, czso 0b1000) := by decide

/-- `jc 8`, vector J7. -/
theorem test_jc_J7 :
    (ran 0xE008 (base)).map (fun t => (t.pc, t.flags)) =
      some (0x0102, czso 0b0000) := by decide

/-- `jz -64`, vector J41. -/
theorem test_jz_J41 :
    (ran 0xE440 (base.setFlags (czso 0b0100))).map (fun t => (t.pc, t.flags)) =
      some (0x0082, czso 0b0100) := by decide

/-- `jz 8`, vector J9. -/
theorem test_jz_J9 :
    (ran 0xE408 (base)).map (fun t => (t.pc, t.flags)) =
      some (0x0102, czso 0b0000) := by decide

/-- `js 8`, vector J10. -/
theorem test_js_J10 :
    (ran 0xE808 (base.setFlags (czso 0b0010))).map (fun t => (t.pc, t.flags)) =
      some (0x0112, czso 0b0010) := by decide

/-- `js 8`, vector J11. -/
theorem test_js_J11 :
    (ran 0xE808 (base)).map (fun t => (t.pc, t.flags)) =
      some (0x0102, czso 0b0000) := by decide

/-- `jleu 8`, vector J34. -/
theorem test_jleu_J34 :
    (ran 0xEC08 (base.setFlags (czso 0b1000))).map (fun t => (t.pc, t.flags)) =
      some (0x0112, czso 0b1000) := by decide

/-- `jleu 8`, vector J13. -/
theorem test_jleu_J13 :
    (ran 0xEC08 (base)).map (fun t => (t.pc, t.flags)) =
      some (0x0102, czso 0b0000) := by decide

/-- `jl 8`, vector J14. -/
theorem test_jl_J14 :
    (ran 0xF008 (base.setFlags (czso 0b0010))).map (fun t => (t.pc, t.flags)) =
      some (0x0112, czso 0b0010) := by decide

/-- `jl 8`, vector J15. -/
theorem test_jl_J15 :
    (ran 0xF008 (base.setFlags (czso 0b0011))).map (fun t => (t.pc, t.flags)) =
      some (0x0102, czso 0b0011) := by decide

/-- `jle 8`, vector J16. -/
theorem test_jle_J16 :
    (ran 0xF408 (base.setFlags (czso 0b0001))).map (fun t => (t.pc, t.flags)) =
      some (0x0112, czso 0b0001) := by decide

/-- `jle 8`, vector J17. -/
theorem test_jle_J17 :
    (ran 0xF408 (base)).map (fun t => (t.pc, t.flags)) =
      some (0x0102, czso 0b0000) := by decide

/-- `jo 8`, vector J18. -/
theorem test_jo_J18 :
    (ran 0xF808 (base.setFlags (czso 0b0001))).map (fun t => (t.pc, t.flags)) =
      some (0x0112, czso 0b0001) := by decide

/-- `jo 8`, vector J19. -/
theorem test_jo_J19 :
    (ran 0xF808 (base)).map (fun t => (t.pc, t.flags)) =
      some (0x0102, czso 0b0000) := by decide

/-- `jno 8`, vector J20. -/
theorem test_jno_J20 :
    (ran 0xFC08 (base)).map (fun t => (t.pc, t.flags)) =
      some (0x0112, czso 0b0000) := by decide

/-- `jno 8`, vector J21. -/
theorem test_jno_J21 :
    (ran 0xFC08 (base.setFlags (czso 0b0001))).map (fun t => (t.pc, t.flags)) =
      some (0x0102, czso 0b0001) := by decide

/-- `jnc 8`, vector J22. -/
theorem test_jnc_J22 :
    (ran 0xE088 (base)).map (fun t => (t.pc, t.flags)) =
      some (0x0112, czso 0b0000) := by decide

/-- `jnc 8`, vector J23. -/
theorem test_jnc_J23 :
    (ran 0xE088 (base.setFlags (czso 0b1000))).map (fun t => (t.pc, t.flags)) =
      some (0x0102, czso 0b1000) := by decide

/-- `jnz -4`, vector J39. -/
theorem test_jnz_J39 :
    (ran 0xE4FC (base)).map (fun t => (t.pc, t.flags)) =
      some (0x00FA, czso 0b0000) := by decide

/-- `jnz 8`, vector J25. -/
theorem test_jnz_J25 :
    (ran 0xE488 (base.setFlags (czso 0b0100))).map (fun t => (t.pc, t.flags)) =
      some (0x0102, czso 0b0100) := by decide

/-- `jns 8`, vector J26. -/
theorem test_jns_J26 :
    (ran 0xE888 (base)).map (fun t => (t.pc, t.flags)) =
      some (0x0112, czso 0b0000) := by decide

/-- `jns 8`, vector J27. -/
theorem test_jns_J27 :
    (ran 0xE888 (base.setFlags (czso 0b0010))).map (fun t => (t.pc, t.flags)) =
      some (0x0102, czso 0b0010) := by decide

/-- `jgu 8`, vector J28. -/
theorem test_jgu_J28 :
    (ran 0xEC88 (base)).map (fun t => (t.pc, t.flags)) =
      some (0x0112, czso 0b0000) := by decide

/-- `jgu 8`, vector J36. -/
theorem test_jgu_J36 :
    (ran 0xEC88 (base.setFlags (czso 0b0100))).map (fun t => (t.pc, t.flags)) =
      some (0x0102, czso 0b0100) := by decide

/-- `jge 8`, vector J30. -/
theorem test_jge_J30 :
    (ran 0xF088 (base.setFlags (czso 0b0011))).map (fun t => (t.pc, t.flags)) =
      some (0x0112, czso 0b0011) := by decide

/-- `jge 8`, vector J31. -/
theorem test_jge_J31 :
    (ran 0xF088 (base.setFlags (czso 0b0001))).map (fun t => (t.pc, t.flags)) =
      some (0x0102, czso 0b0001) := by decide

/-- `jg 8`, vector J37. -/
theorem test_jg_J37 :
    (ran 0xF488 (base.setFlags (czso 0b0011))).map (fun t => (t.pc, t.flags)) =
      some (0x0112, czso 0b0011) := by decide

/-- `jg 8`, vector J38. -/
theorem test_jg_J38 :
    (ran 0xF488 (base.setFlags (czso 0b0010))).map (fun t => (t.pc, t.flags)) =
      some (0x0102, czso 0b0010) := by decide

/-- `mrs r1, r0`, vector Y18. -/
theorem test_mrs_Y18 :
    (ran 0xF8AF ((base.setGpr .r0 0x0004).setSels (base.sels.set 4 0xAB))).map (fun t => (t.gpr .r1, t.flags)) =
      some (0x00AB, czso 0b0000) := by decide

/-- `stc`, vector V15. -/
theorem test_stc_V15 :
    (ran 0xFCF7 (base)).map (fun t => (t.pc, t.flags.c)) =
      some (0x0102, true) := by decide

/-- `zxt r2`, vector V16. -/
theorem test_zxt_V16 :
    (ran 0xFA27 ((base.setGpr .r2 0xAB81).setFlags (czso 0b1010))).map (fun t => (t.gpr .r2, t.flags)) =
      some (0x0081, czso 0b1010) := by decide

/-- `sxt r2`, vector V17. -/
theorem test_sxt_V17 :
    (ran 0xFA2F ((base.setGpr .r2 0x0080).setFlags (czso 0b1000))).map (fun t => (t.gpr .r2, t.flags)) =
      some (0xFF80, czso 0b1000) := by decide

/-- `cpl r0`, vector V20. -/
theorem test_cpl_V20 :
    (ran 0xFE07 (base.setGpr .r0 0xFFFF)).map (fun t => (t.gpr .r0, t.flags)) =
      some (0x0000, czso 0b0000) := by decide

/-- `neg r4`, vector A26. -/
theorem test_neg_A26 :
    (ran 0xFE4F (base.setGpr .r4 0x8000)).map (fun t => (t.pc, t.flags)) =
      some (0x0102, czso 0b1011) := by decide

/-- `pop r1`, vector S11. -/
theorem test_pop_S11 :
    (ran 0xFA6F ((base.setSp 0xFFFE).holdingWord 0xFFFE 0x0001)).map (fun t => (t.gpr .r1, t.sp, t.flags)) =
      some (0x0001, 0x0000, czso 0b0000) := by decide

/-- `mf2`, vector V11. -/
theorem test_mf2_V11 :
    (ran 0xFE77 ((base.setGpr .r2 0x8429).setReq 0b000011)).map (fun t => (t.flags, t.mask, t.req)) =
      some (czso 0b1001, 0b100001, 0b000010) := by decide

/-- `mf2`, vector V14. -/
theorem test_mf2_V14 :
    (ran 0xFE77 (base.setGpr .r2 0x0030)).map (fun t => (t.pc, t.flags)) =
      some (0x0102, czso 0b0000) := by decide

/-- `m2f`, vector V9. -/
theorem test_m2f_V9 :
    (ran 0xFE7F ((((base.setGpr .r2 0xFFFF).setFlags (czso 0b1001)).setMask 0b100001).setReq 0b000010)).map (fun t => (t.gpr .r2, t.flags)) =
      some (0x8429, czso 0b1001) := by decide

/-- `sac r0, r1, 4`, vector W9. -/
theorem test_sac_W9 :
    (ran 0xE294 ((base.setGpr .r0 0x0001).setGpr .r1 0xFFFF)).map (fun t => (t.gpr .r0, t.flags)) =
      some (0xFFF1, czso 0b0010) := by decide

/-- `sac r0, r1, 15`, vector W8. -/
theorem test_sac_W8 :
    (ran 0xE29F ((base.setGpr .r0 0x8000).setGpr .r1 0x0001)).map (fun t => (t.gpr .r0, t.flags)) =
      some (0x0000, czso 0b1101) := by decide

/-- `sr r1, 1`, vector H15. -/
theorem test_srImm_H15 :
    (ran 0xFA91 (base.setGpr .r1 0x0001)).map (fun t => (t.gpr .r1, t.flags)) =
      some (0x0000, czso 0b0100) := by decide

/-- `sl r1, 7`, vector H18. -/
theorem test_slImm_H18 :
    (ran 0xFE97 (base.setGpr .r1 0x0040)).map (fun t => (t.gpr .r1, t.flags)) =
      some (0x2000, czso 0b0000) := by decide

/-- `asr r1, 1`, vector H20. -/
theorem test_asrImm_H20 :
    (ran 0xE6E1 (base.setGpr .r1 0x8001)).map (fun t => (t.gpr .r1, t.flags)) =
      some (0xC000, czso 0b0010) := by decide

/-- `rl r1, 8`, vector H22. -/
theorem test_rlImm_H22 :
    (ran 0xE6F8 (base.setGpr .r1 0x1234)).map (fun t => (t.gpr .r1, t.flags)) =
      some (0x3412, czso 0b0000) := by decide

/-- `di`, vector Y11. -/
theorem test_di_Y11 :
    (ran 0xFAE7 (base.setIe true)).map (fun t => (t.flags, t.ie)) =
      some (czso 0b0000, false) := by decide

/-- `ei`, vector Y12. -/
theorem test_ei_Y12 :
    (ran 0xFAEF (base)).map (fun t => (t.flags, t.ie)) =
      some (czso 0b0000, true) := by decide

/-- `reti`, vector Y8. -/
theorem test_reti_Y8 :
    (ran 0xFAF7 (base.holdingWord 0x3EFE 0x0205)).map (fun t => (t.pc, t.flags, t.ie)) =
      some (0x0204, czso 0b0000, true) := by decide

/-- `reti`, vector Y9. -/
theorem test_reti_Y9 :
    (ran 0xFAF7 ((base.setIe true).holdingWord 0x3EFE 0x0204)).map (fun t => (t.pc, t.flags, t.ie)) =
      some (0x0204, czso 0b0000, false) := by decide

/-- `add22adc33`, vector W11. -/
theorem test_add22adc33_W11 :
    (ran 0xFEE7 ((base.setGpr .r2 0x4000).setGpr .r3 0x8000)).map (fun t => (t.gpr .r2, t.gpr .r3, t.flags)) =
      some (0x8000, 0x0000, czso 0b1101) := by decide

/-- `cadd24`, vector W15. -/
theorem test_cadd24_W15 :
    (ran 0xFEEF (((base.setGpr .r2 0xFFFF).setGpr .r4 0x0001).setFlags (czso 0b1000))).map (fun t => (t.gpr .r2, t.flags)) =
      some (0x0000, czso 0b1100) := by decide

/-- `cadd24adc3z`, vector W16. -/
theorem test_cadd24adc3z_W16 :
    (ran 0xFEF7 (((base.setGpr .r2 0xFFFF).setGpr .r4 0x0001).setFlags (czso 0b1000))).map (fun t => (t.gpr .r2, t.gpr .r3, t.flags)) =
      some (0x0000, 0x0001, czso 0b0000) := by decide

/-- `csub34`, vector W19. -/
theorem test_csub34_W19 :
    (ran 0xFEFF ((base.setGpr .r3 0x000A).setGpr .r4 0x0003)).map (fun t => (t.gpr .r3, t.flags)) =
      some (0x0007, czso 0b0000) := by decide

/-- `csub34`, vector W20. -/
theorem test_csub34_W20 :
    (ran 0xFEFF ((base.setGpr .r3 0x0002).setGpr .r4 0x0003)).map (fun t => (t.pc, t.flags)) =
      some (0x0102, czso 0b1000) := by decide

/-- `lb r1, (r2 + r3)`, vector L6. -/
theorem test_lbReg_L6 :
    (ran 0xE723 (((base.setGpr .r2 0x2000).setGpr .r3 0xFFFF).pokeByte 0x1FFF 0x5A)).map (fun t => (t.gpr .r1, t.flags)) =
      some (0x005A, czso 0b0000) := by decide

/-- `lw r1, (r2 + pc)`, vector L17. -/
theorem test_lwReg_L17 :
    (ran 0xE7A7 ((base.setGpr .r2 0x0010).holdingWord 0x0112 0x7777)).map (fun t => (t.gpr .r1, t.flags)) =
      some (0x7777, czso 0b0000) := by decide

/-- `lw r1, (r2 + sp)`, vector L18. -/
theorem test_lwReg_L18 :
    (ran 0xE7A6 ((base.setGpr .r2 0x0010).holdingWord 0x3F10 0x8888)).map (fun t => (t.gpr .r1, t.flags)) =
      some (0x8888, czso 0b0000) := by decide

/-- `sb r1, (r2 + r3)`, vector L25. -/
theorem test_sbReg_L25 :
    (ran 0xE72B (((base.setGpr .r1 0x0042).setGpr .r2 0x2000).setGpr .r3 0x0003)).map (fun t => (t.flags, t.byteAt 0x2003)) =
      some (czso 0b0000, 0x42) := by decide

/-- `sw r3, (r4 + r3)`, vector L28. -/
theorem test_swReg_L28 :
    (ran 0xEFCB ((base.setGpr .r3 0x0100).setGpr .r4 0x2000)).map (fun t => (t.flags, t.heldWord 0x2100)) =
      some (czso 0b0000, 0x0100) := by decide

/-- `sr r1, r2`, vector H2. -/
theorem test_srReg_H2 :
    (ran 0xE762 ((base.setGpr .r1 0x8000).setGpr .r2 0x000F)).map (fun t => (t.gpr .r1, t.flags)) =
      some (0x0001, czso 0b0000) := by decide

/-- `sl r1, r2`, vector H4. -/
theorem test_slReg_H4 :
    (ran 0xE76A ((base.setGpr .r1 0x4001).setGpr .r2 0x0001)).map (fun t => (t.gpr .r1, t.flags)) =
      some (0x8002, czso 0b0010) := by decide

/-- `rr r1, r2`, vector H13. -/
theorem test_rrReg_H13 :
    (ran 0xE7E2 ((base.setGpr .r1 0x1234).setGpr .r2 0x0004)).map (fun t => (t.gpr .r1, t.flags)) =
      some (0x4123, czso 0b0000) := by decide

/-- `rl r1, r2`, vector H10. -/
theorem test_rlReg_H10 :
    (ran 0xE7EA ((base.setGpr .r1 0x8001).setGpr .r2 0x0001)).map (fun t => (t.gpr .r1, t.flags)) =
      some (0x0003, czso 0b0000) := by decide

/-- `asr r1, r2`, vector H9. -/
theorem test_asrReg_H9 :
    (ran 0xE772 ((base.setGpr .r1 0xFFFE).setGpr .r2 0x0001)).map (fun t => (t.gpr .r1, t.flags)) =
      some (0xFFFF, czso 0b0010) := by decide

/-- `xor r0, r0`, vector A32. -/
theorem test_xorReg_A32 :
    (ran 0xE378 ((base.setGpr .r0 0xBEEF).setFlags (czso 0b1000))).map (fun t => (t.gpr .r0, t.flags)) =
      some (0x0000, czso 0b0100) := by decide

/-- `and r0, r1`, vector A27. -/
theorem test_andReg_A27 :
    (ran 0xE3F1 (((base.setGpr .r0 0xF0F0).setGpr .r1 0xFF00).setFlags (czso 0b1001))).map (fun t => (t.gpr .r0, t.flags)) =
      some (0xF000, czso 0b0010) := by decide

/-- `or r0, r1`, vector A30. -/
theorem test_orReg_A30 :
    (ran 0xE3F9 ((base.setGpr .r0 0x8000).setGpr .r1 0x0001)).map (fun t => (t.gpr .r0, t.flags)) =
      some (0x8001, czso 0b0010) := by decide

/-- `adc r0, r1`, vector A7. -/
theorem test_adcReg_A7 :
    (ran 0xFB01 ((base.setGpr .r0 0xFFFF).setFlags (czso 0b1000))).map (fun t => (t.gpr .r0, t.flags)) =
      some (0x0000, czso 0b1100) := by decide

/-- `sbb r0, r1`, vector A18. -/
theorem test_sbbReg_A18 :
    (ran 0xFB09 (((base.setGpr .r0 0x8000).setGpr .r1 0x7FFF).setFlags (czso 0b1000))).map (fun t => (t.gpr .r0, t.flags)) =
      some (0x0000, czso 0b0101) := by decide

/-- `add r0, r1`, vector A3. -/
theorem test_addReg_A3 :
    (ran 0xFF01 ((base.setGpr .r0 0x8000).setGpr .r1 0x8000)).map (fun t => (t.gpr .r0, t.flags)) =
      some (0x0000, czso 0b1101) := by decide

/-- `sub r0, r1`, vector A12. -/
theorem test_subReg_A12 :
    (ran 0xFF09 (base.setGpr .r1 0x0001)).map (fun t => (t.gpr .r0, t.flags)) =
      some (0xFFFF, czso 0b1010) := by decide

/-- `cmp r0, r1`, vector A20. -/
theorem test_cmpReg_A20 :
    (ran 0xFF89 ((base.setGpr .r0 0x8000).setGpr .r1 0x7FFF)).map (fun t => (t.pc, t.flags)) =
      some (0x0102, czso 0b0001) := by decide

/-- `mov r2, pc`, vector V7. -/
theorem test_mov_V7 :
    (ran 0xEB2F (base)).map (fun t => (t.gpr .r2, t.flags)) =
      some (0x0102, czso 0b0000) := by decide

/-- `msr r0, r1`, vector Y14. -/
theorem test_msr_Y14 :
    (ran 0xE389 ((base.setGpr .r0 0x0005).setGpr .r1 0x1234)).map (fun t => (t.flags, t.sels.sel5)) =
      some (czso 0b0000, 0x34) := by decide

/-! ### Stops -/

/-- An odd word address (vectors L10, L29, M8). -/
theorem test_misaligned :
    faultOf (exec (decodeWord 0x2501) (base.setGpr .r2 0x2000)) = some (.misaligned .data 0x2001) ∧
      faultOf (exec (decodeWord 0x6501) (base.setGpr .r2 0x2000)) = some (.misaligned .data 0x2001) ∧
      faultOf (exec (decodeWord 0x1B01) (base.setGpr .r1 0x2000)) = some (.misaligned .data 0x2001) := by decide

/-- A selector number above 7 (vectors Y16, Y19). -/
theorem test_reserved_selector :
    faultOf (exec (decodeWord 0xE389) (base.setGpr .r0 8)) = some (.reservedSelector 8) ∧
      faultOf (exec (decodeWord 0xF8AF) (base.setGpr .r0 9)) = some (.reservedSelector 9) := by decide

/-- Reserved words (vectors S16, M15, H24 to H28). -/
theorem test_reserved_words :
    refusalOf (exec (decodeWord 0xD481) base) = some (.reservedEncoding 0xD481) ∧
      refusalOf (exec (decodeWord 0x2703) base) = some (.reservedEncoding 0x2703) ∧
      refusalOf (exec (decodeWord 0xFE91) base) = some (.reservedEncoding 0xFE91) ∧
      refusalOf (exec (decodeWord 0xFE90) base) = some (.reservedEncoding 0xFE90) ∧
      refusalOf (exec (decodeWord 0xFA90) base) = some (.reservedEncoding 0xFA90) := by decide

/-- Reserved words (vectors H27, H28, Y21 to Y23). -/
theorem test_reserved_words_more :
    refusalOf (exec (decodeWord 0xE6E0) base) = some (.reservedEncoding 0xE6E0) ∧
      refusalOf (exec (decodeWord 0xE6F0) base) = some (.reservedEncoding 0xE6F0) ∧
      refusalOf (exec (decodeWord 0xFAFF) base) = some (.reservedEncoding 0xFAFF) ∧
      refusalOf (exec (decodeWord 0xFCFF) base) = some (.reservedEncoding 0xFCFF) ∧
      refusalOf (exec (decodeWord 0xB800) base) = some (.reservedEncoding 0xB800) := by decide

/-- `base` with r2 at 0x2000 and one kind of region at 0x2000. -/
def facing (kind : BusKind) : State :=
  { base with regs := base.regs.set .r2 0x2000, platform := [{ base := 0x2000, size := 16, kind := kind }] }

/-- A platform that does not say what happens stops the access; one that says so goes on (U17, R310; log 4). -/
theorem test_platform_open_accesses :
    faultOf (exec (decodeWord 0x4500) (facing (.rom false))) = some (.romWrite 0x2000) ∧
      (ran 0x4500 (facing (.rom true))).map (fun t => (t.pc, t.mem)) = some (0x0102, []) ∧
      (ran 0x0505 (facing (.rom false))).map (fun t => t.gpr .r1) = some 0 ∧
      faultOf (exec (decodeWord 0x0505) (facing (.absent none))) = some (.absentAddress 0x2005) ∧
      (ran 0x0505 (facing (.absent (some 0xFF)))).map (fun t => t.gpr .r1) = some 0x00FF := by decide

/-- A device that answers byte reads at 0x2005 with 0x41 and then 0x42 until a 0x34 is written to 0x2000. -/
def counter : Device :=
  { number := 7, start := 0
    rules :=
      [{ state := 0, access := { addr := 0x2005, width := .byte, written := none }, answer := 0x41, next := 1 },
        { state := 1, access := { addr := 0x2005, width := .byte, written := none }, answer := 0x42, next := 1 },
        { state := 1, access := { addr := 0x2000, width := .byte, written := some 0x34 }, answer := 0, next := 0 }] }

/-- A load from a device has its side effect once, and a store reaches the device (R63, R70; D20). -/
theorem test_device_side_effects :
    (ran 0x0505 (facing (.device counter))).map (fun t => (t.gpr .r1, t.busLog)) =
        some (0x0041, [(7, ⟨0x2005, .byte, none⟩)]) ∧
      ((ran 0x0505 (facing (.device counter))).bind (ran 0x0505)).map (fun t => t.gpr .r1) = some 0x0042 ∧
      ((((ran 0x0505 (facing (.device counter))).map fun t => t.setGpr .r1 0x1234).bind (ran 0x4500)).bind
        (ran 0x0505)).map (fun t => (t.gpr .r1, t.mem)) = some (0x0041, []) := by decide

/-- A word is one access of the device that has both its bytes; what the table does not list is a free value, and the
machine goes on (logs 31, 32). -/
theorem test_device_word :
    (ran 0x6500 ((facing (.device counter)).setGpr .r1 0xBEEF)).map (fun t => (t.pc, t.busLog)) =
        some (0x0102, [(7, ⟨0x2000, .word, some 0xBEEF⟩)]) ∧
      (ran 0x2500 (facing (.device counter))).map (fun t => (t.pc, t.busLog)) =
        some (0x0102, [(7, ⟨0x2000, .word, none⟩)]) := by decide

/-- A fetch from a device reads its word once (R63). -/
theorem test_device_fetch :
    (stepped { base with
        platform := [{ base := 0x100, size := 2, kind := .device { number := 1, start := 0, rules :=
          [{ state := 0, access := ⟨0x100, .word, none⟩, answer := 0xA0FF, next := 0 }] } }] }).map
      (fun t => (t.gpr .r0, t.pc, t.busLog)) = some (0x00FF, 0x0102, [(1, ⟨0x100, .word, none⟩)]) := by decide

/-! ### Instruction boundaries -/

/-- A boundary with `li r0, 1` at pc, vector I1. -/
theorem test_boundary_I1 :
    (stepped ((((base.setIe true).setMask 0b000100).setReq 0b000100).holdingWord 0x100 0xA001)).map (fun t => (t.pc, t.flags, t.ie, t.heldWord 0x3EFE)) =
      some (0x003E, czso 0b0000, false, 0x0101) := by decide

/-- A boundary with `li r0, 1` at pc, vector I2. -/
theorem test_boundary_I2 :
    (stepped (((base.setMask 0b000100).setReq 0b000100).holdingWord 0x100 0xA001)).map (fun t => (t.gpr .r0, t.flags)) =
      some (0x0001, czso 0b0000) := by decide

/-- A boundary with `li r0, 1` at pc, vector I3. -/
theorem test_boundary_I3 :
    (stepped ((((base.setIe true).setMask 0b000100).setReq 0b000010).holdingWord 0x100 0xA001)).map (fun t => (t.gpr .r0, t.flags)) =
      some (0x0001, czso 0b0000) := by decide

/-- A boundary with `swi 2` at pc, vector I6. -/
theorem test_boundary_I6 :
    (stepped ((((base.setIe true).setMask 0b000001).setReq 0b000001).holdingWord 0x100 0x9B05)).map (fun t => (t.pc, t.flags, t.ie, t.heldWord 0x3EFE)) =
      some (0x003E, czso 0b0000, false, 0x0101) := by decide

/-- A boundary with `ei` at pc, vector I9. -/
theorem test_boundary_I9 :
    (stepped (((base.setMask 0b000001).setReq 0b000001).holdingWord 0x100 0xFAEF)).map (fun t => (t.flags, t.ie)) =
      some (czso 0b0000, true) := by decide

/-- An edge that arrives at this boundary is latched before the interrupt check (log 6). -/
theorem test_boundary_edge :
    (stepped (({ base with irqEvents := [0b000100] }.setIe true).setMask 0b000100)).map
        (fun t => (t.pc, t.req, t.irqEvents)) = some (0x003E, 0b000100, []) := by decide

/-- withFetchWord makes the next step run the word (log 29). -/
theorem test_withFetchWord :
    (stepped (State.reset.withFetchWord 16 0xA0FF)).map (fun t => (t.gpr .r0, t.pc)) = some (0x00FF, 0x0002) := by
  decide

/-! ### The hypotheses of the statements can be met -/

/-- The default state with an interrupt of line 2 enabled and an edge of it arriving. -/
def withEdge : State := ({ base with irqEvents := [0b000100, 0b000001] }.setIe true).setMask 0b000100

/-- The default state with a word to execute at pc. -/
def about (w : Word) : State := base.holdingWord 0x100 w

/-- The default state on a platform with RAM in the first half of the physical space and nothing above it. -/
def halfRam : State := { base with platform := [{ base := 0x200000, size := 0x200000, kind := .absent none }] }

theorem witness_DecodeEncodeAgree :
    (Instr.subm .r4 .sp 127).WellFormed ∧ (Instr.lwImm .sp .pc 127).WellFormed ∧
      (Instr.reservedIncm .r5 3).WellFormed := by decide

/-- A quiet boundary, and one with a latched but masked request; the fetch at the last code word. -/
theorem witness_StepRunsDecodedInstruction :
    (∃ w u, (about 0xA0FF).latchIrq.fetch = .ok (w, u)) ∧ ((about 0xA0FF).latchIrq.irqPending = false ∧ (about 0xA0FF).canReadWord .code (about 0xA0FF).pc = true ∧
      decode [(about 0xA0FF).byteAt ((about 0xA0FF).translate .code (about 0xA0FF).pc),
        (about 0xA0FF).byteAt ((about 0xA0FF).translate .code ((about 0xA0FF).pc + 1))] = .ok (.li .r0 255, [])) ∧
      (let s := ({ about 0xA0FF with irqEvents := [0b000100] }.setIe true).setMask 0b000001;
        s.latchIrq.irqPending = false ∧ s.canReadWord .code s.pc = true ∧
          decode [s.byteAt (s.translate .code s.pc), s.byteAt (s.translate .code (s.pc + 1))] =
            .ok (.li .r0 255, [])) ∧
      (let s := (base.setPc 0xFFFE).holdingWord 0xFFFE 0xFAEF;
        s.latchIrq.irqPending = false ∧ s.canReadWord .code s.pc = true ∧
          decode [s.byteAt (s.translate .code s.pc), s.byteAt (s.translate .code (s.pc + 1))] = .ok (.ei, [])) :=
  ⟨⟨_, _, rfl⟩, by decide, by decide, by decide⟩

theorem witness_StepTakesInterrupt :
    withEdge.latchIrq.irqPending = true ∧ withEdge.canWriteWord .data (withEdge.sp - 2) = true ∧
      (withEdge.setSp 0).latchIrq.irqPending = true ∧
      (withEdge.setSp 0).canWriteWord .data ((withEdge.setSp 0).sp - 2) = true := by decide

/-- A step that is an interrupt entry, one that executes `li`, one that executes `mf2` and clears a request. -/
theorem witness_EdgesAreLatched :
    ((∃ t, step withEdge = .next t) ∧ withEdge.latchIrq.irqPending = true) ∧
      (let s := { about 0xA0FF with irqEvents := [0b000100] };
        (∃ t, step s = .next t) ∧ (∃ w u, s.fetch = .ok (w, u) ∧ decodeWord w = .li .r0 255)) ∧
      (let s := { about 0xFE77 with irqEvents := [0b000100] };
        (stepped s).map (fun t => (t.req, t.irqEvents)) = some (0, []) ∧ s.latchIrq.irqPending = false ∧
          ∃ w u, s.fetch = .ok (w, u) ∧ decodeWord w = .mf2) :=
  ⟨⟨⟨_, rfl⟩, by decide⟩, ⟨⟨_, rfl⟩, _, _, rfl, by decide⟩, by decide, by decide, _, _, rfl, by decide⟩

theorem witness_ResetState : (0x3FFF : Word).toNat < 0x4000 ∧ (0 : Word).toNat < 0x4000 := by decide

theorem witness_ResetMeetsInvariant :
    ({ Unspecified.zero with mem := [(5, 1), (0x3FFFFF, 0xFF)] } : Unspecified).mem.Wf := by decide

/-- An interrupt entry, and an instruction that writes memory, sp and pc bit 0. -/
theorem witness_InvariantKept :
    ((withEdge.pc.getLsbD 0 = false ∧ withEdge.sp.getLsbD 0 = false ∧ withEdge.mem.Wf) ∧
        ∃ t, step withEdge = .next t) ∧
      (((about 0x5B81).pc.getLsbD 0 = false ∧ (about 0x5B81).sp.getLsbD 0 = false ∧ (about 0x5B81).mem.Wf) ∧
        ∃ t, step (about 0x5B81) = .next t) :=
  ⟨⟨by decide, ⟨_, rfl⟩⟩, ⟨by decide, ⟨_, rfl⟩⟩⟩

/-- Completed instructions that change IE, a selector, MASK and REQ, and one that changes none of them. -/
theorem witness_SystemStateWriters :
    (nextOf (exec .ei base)).map (fun t => t.ie) = some true ∧
      (nextOf (exec (.msr .r0 .sp) (base.setSp 0x3F02))).map (fun t => t.sels.sel0) = some 2 ∧
      (nextOf (exec .mf2 ((base.setReq 0b000001).setGpr .r2 0x0400))).map (fun t => (t.mask, t.req)) =
        some (0b000001, 0) ∧
      (nextOf (exec (.mov .r0 .sp) base)).map (fun t => t.gpr .r0) = some 0x3F00 := by decide

theorem witness_MemoryAndSpWriters :
    (∃ t, exec (.pop .r0) base = .next t) ∧ (Instr.pop .r0).storesToMemory = false ∧
      (∃ t, exec (.ss5r .r0) base = .next t) ∧ (Instr.ss5r .r0).writesSp = false ∧
      (∃ t, exec .stc base = .next t) ∧ Instr.stc.loadsFromMemory = false ∧ Instr.stc.storesToMemory = false :=
  ⟨⟨_, rfl⟩, rfl, ⟨_, rfl⟩, rfl, ⟨_, rfl⟩, rfl, rfl⟩

theorem witness_FlagsAndPcWriters :
    (∃ t, exec (.jc 8) base = .next t) ∧ (Instr.jc 8).changesFlags = false ∧
      (∃ t, exec (.addReg .r0 .sp) base = .next t) ∧ (Instr.addReg .r0 .sp).transfersControl = false :=
  ⟨⟨_, rfl⟩, rfl, ⟨_, rfl⟩, rfl⟩

theorem witness_StopsOnlyWhereUndefined :
    ((about 0x2501).setGpr .r2 1).platform = [] ∧
      faultOf (step (about 0x2501)) = some (.misaligned .data 1) ∧
      faultOf (step ((about 0xE389).setGpr .r0 8)) = some (.reservedSelector 8) ∧
      refusalOf (step (about 0xFAFF)) = some (.reservedEncoding 0xFAFF) := by decide

theorem witness_ShiftFunctions : (15 < 16) ∧ (0 < 16) := by decide

/-- The first and last address of a quarter, and the first and last selector of each space. -/
theorem witness_Translation :
    ((0 : Fin 8).val = (0x3FFF : Word).toNat / 16384) ∧ ((1 : Fin 8).val = (0x4000 : Word).toNat / 16384) ∧
      ((3 : Fin 8).val = (0xFFFF : Word).toNat / 16384) ∧ ((4 : Fin 8).val = (0x3FFF : Word).toNat / 16384 + 4) ∧
      ((7 : Fin 8).val = (0xFFFF : Word).toNat / 16384 + 4) := by decide

/-- The last word of a quarter whose block lies in RAM, and an odd address. -/
theorem witness_MemoryPrimitives :
    halfRam.readable (halfRam.translate .data 0x3FFF) = true ∧
      halfRam.writable (halfRam.translate .data 0x3FFF) = true ∧ (0x3FFE : Word).getLsbD 0 = false ∧
      halfRam.canReadWord .data 0x3FFE = true ∧ halfRam.canWriteWord .data 0x3FFE = true ∧
      (0x3FFF : Word).getLsbD 0 = true := by decide

/-- Two addresses of one physical word, two of different words, and pc at the stored word. -/
theorem witness_StoreLoadAlias :
    base.canWriteWord .data 0x0100 = true ∧ base.translate .code 0x0100 = base.translate .data 0x0100 ∧
      base.translate .code 0x0102 ≠ base.translate .data 0x0100 ∧ base.pc.getLsbD 0 = false ∧
      base.translate .code base.pc = base.translate .data 0x0100 ∧
      (∃ w u, base.readWord .code 0x0102 = .ok (w, u)) ∧
      halfRam.canWriteWord .data 0x0100 = true ∧
      (let s := halfRam.setSels (halfRam.sels.set 1 0x80);
        s.canWriteWord .data 0x0100 = true ∧ s.translate .code 0x4000 ≠ s.translate .data 0x0100 ∧
          ∃ f, s.readWord .code 0x4000 = .error f) :=
  ⟨by decide, by decide, by decide, by decide, by decide, ⟨_, _, rfl⟩, by decide, by decide, by decide, _, rfl⟩

/-- The state in which a device answers at 0x2000 to 0x200F, with sp at 0x2000. -/
def facingDevice : State := (facing (.device counter)).setSp 0x2000

/-- The first and the last word of a device, reached by each family, and a device that lists the access. -/
theorem witness_PlatformBehaviour :
    (kindAt facingDevice.platform (facingDevice.translate .data (facingDevice.eaImm (.gpr .r2) 0)).toNat =
        .device counter ∧ (facingDevice.eaImm (.gpr .r2) 0).getLsbD 0 = false ∧
      kindAt facingDevice.platform (facingDevice.translate .data (facingDevice.eaImm (.gpr .r2) 0 + 1)).toNat =
        .device counter) ∧
    (kindAt facingDevice.platform (facingDevice.translate .data (facingDevice.eaReg .r2 (.gpr .r0) + 14)).toNat =
        .device counter ∧ (facingDevice.eaReg .r2 (.gpr .r0) + 14).getLsbD 0 = false ∧
      kindAt facingDevice.platform (facingDevice.translate .data (facingDevice.eaReg .r2 (.gpr .r0) + 14 + 1)).toNat =
        .device counter) ∧
    (kindAt facingDevice.platform (facingDevice.translate .data (facingDevice.gpr .r2)).toNat = .device counter ∧
      kindAt facingDevice.platform (facingDevice.translate .data (facingDevice.eaSp 14)).toNat = .device counter ∧
      kindAt facingDevice.platform (facingDevice.translate .data (facingDevice.eaSp 14 + 1)).toNat =
        .device counter) ∧
    (facingDevice.sp.getLsbD 0 = false ∧
      kindAt facingDevice.platform (facingDevice.translate .data facingDevice.sp).toNat = .device counter ∧
      kindAt facingDevice.platform (facingDevice.translate .data (facingDevice.sp + 1)).toNat = .device counter ∧
      kindAt facingDevice.platform (facingDevice.translate .data (facingDevice.sp + 2)).toNat = .device counter ∧
      kindAt facingDevice.platform (facingDevice.translate .data (facingDevice.sp + 2 + 1)).toNat =
        .device counter) ∧
    (8 : Nat) ≠ counter.number ∧ (∃ l, counter.lineFor (counter.stateAfter []) ⟨0x2005, .byte, none⟩ = some l) ∧
    kindAt (facing (.rom true)).platform (0x2000 : Phys).toNat = .rom true ∧
    kindAt (facing (.rom false)).platform (0x2000 : Phys).toNat = .rom false ∧
    kindAt (facing (.absent (some 5))).platform (0x2000 : Phys).toNat = .absent (some 5) ∧
    kindAt (facing (.absent none)).platform (0x2000 : Phys).toNat = .absent none :=
  ⟨by decide, by decide, by decide, by decide, by decide, ⟨_, rfl⟩, by decide, by decide, by decide, by decide⟩

theorem witness_RamAnswersEvenWords : base.platform = [] ∧ State.reset.platform = [] := by decide

/-- Every base, at the ends of the immediate's range, and both forms. -/
theorem witness_LoadByte :
    halfRam.readable (halfRam.translate (spaceOf .sp) (halfRam.eaImm .sp 127)) = true ∧
      halfRam.readable (halfRam.translate (spaceOf .pc) (halfRam.eaImm .pc 64)) = true ∧
      halfRam.readable (halfRam.translate (spaceOf (.gpr .r5)) (halfRam.eaImm (.gpr .r5) 63)) = true ∧
      halfRam.readable (halfRam.translate (spaceOf .pc) (halfRam.eaReg .r0 .pc)) = true := by decide

theorem witness_LoadWord :
    halfRam.canReadWord (spaceOf .sp) (halfRam.eaImm .sp 126) = true ∧
      halfRam.canReadWord (spaceOf .pc) (halfRam.eaImm .pc 64) = true ∧
      halfRam.canReadWord (spaceOf .pc) (halfRam.eaReg .r0 .pc) = true := by decide

theorem witness_StoreByte :
    halfRam.writable (halfRam.translate (spaceOf .sp) (halfRam.eaImm .sp 127)) = true ∧
      halfRam.writable (halfRam.translate (spaceOf .pc) (halfRam.eaReg .r0 .pc)) = true := by decide

theorem witness_StoreWord :
    halfRam.canWriteWord (spaceOf .sp) (halfRam.eaImm .sp 126) = true ∧
      halfRam.canWriteWord (spaceOf .pc) (halfRam.eaImm .pc 64) = true ∧
      halfRam.canWriteWord (spaceOf .pc) (halfRam.eaReg .r0 .pc) = true := by decide

theorem witness_MisalignedWordsStop :
    (base.eaImm .sp 1).getLsbD 0 = true ∧ (base.eaImm .pc 127).getLsbD 0 = true ∧
      ((base.setGpr .r0 1).eaReg .r0 .pc).getLsbD 0 = true ∧ ((base.setGpr .r0 0xFFFF).gpr .r0).getLsbD 0 = true ∧
      (base.pc.getLsbD 0 = false ∧ base.sp.getLsbD 0 = false ∧ base.mem.Wf) ∧ (127 : BitVec 7).getLsbD 0 = true := by
  decide

theorem witness_PushWords :
    halfRam.canWriteWord .data (halfRam.sp - 2) = true ∧
      (base.setSp 0).canWriteWord .data ((base.setSp 0).sp - 2) = true := by decide

theorem witness_PopRegister :
    halfRam.canReadWord .data halfRam.sp = true ∧
      (base.setSp 0xFFFE).canReadWord .data (base.setSp 0xFFFE).sp = true := by decide

/-- The pair of words may wrap round the end of the data space. -/
theorem witness_Ls5rSs5r :
    (let s := base.setSp 0xFFFE;
      s.canReadWord .data s.sp = true ∧ s.canReadWord .data (s.sp + 2) = true ∧ s.canWriteWord .data s.sp = true ∧
        s.canWriteWord .data (s.sp + 2) = true) ∧ Gpr.r4 ≠ .r5 := by decide

theorem witness_AddmSubm :
    base.canReadWord .data (base.eaImm .sp 126) = true ∧ base.canReadWord .data (base.eaImm (.gpr .r5) 64) = true ∧
      Gpr.r4 ≠ .r5 := by decide

theorem witness_IncmFamily :
    (Instr.ddecmSp .r0 126, base.sp + (126 : BitVec 7).setWidth 16, (-2 : Word)) ∈
        ([(.incmInd .r0, base.gpr .r0, 1), (.decmInd .r0, base.gpr .r0, -1), (.dincmInd .r0, base.gpr .r0, 2),
          (.ddecmInd .r0, base.gpr .r0, -2), (.incmSp .r0 126, base.sp + (126 : BitVec 7).setWidth 16, 1),
          (.decmSp .r0 126, base.sp + (126 : BitVec 7).setWidth 16, -1),
          (.dincmSp .r0 126, base.sp + (126 : BitVec 7).setWidth 16, 2),
          (.ddecmSp .r0 126, base.sp + (126 : BitVec 7).setWidth 16, -2)] : List (Instr × Word × Word)) ∧
      base.canReadWord .data (base.sp + (126 : BitVec 7).setWidth 16) = true ∧
      base.canWriteWord .data (base.sp + (126 : BitVec 7).setWidth 16) = true ∧
      base.canReadWord .data (base.gpr .r0) = true ∧ base.canWriteWord .data (base.gpr .r0) = true := by decide

/-- The bits of MASK and REQ at both ends. -/
theorem witness_FlagsRegisterMoves : (0 < 6) ∧ (5 < 6) := by decide

theorem witness_ZxtSxtCpl : (0 < 16) ∧ (15 < 16) := by decide

theorem witness_AddUpper :
    Reg.sp ≠ .pc ∧ Reg.gpr .r5 ≠ .pc ∧ base.sp.getLsbD 0 = false ∧ (base.setSp 0xFFFE).sp.getLsbD 0 = false := by
  decide

theorem witness_AddSpLast : base.sp.getLsbD 0 = false ∧ (base.setSp 0xFFFE).sp.getLsbD 0 = false := by decide

theorem witness_ShiftReg :
    (Instr.rrReg .r0 .sp, rotateRight) ∈
      ([(.srReg .r0 .sp, shiftRight), (.slReg .r0 .sp, shiftLeft), (.asrReg .r0 .sp, shiftArith),
        (.rlReg .r0 .sp, rotateLeft), (.rrReg .r0 .sp, rotateRight)] : List (Instr × (Word → Nat → Word))) := by simp

/-- Counts at the ends of what each clause admits. -/
theorem witness_ShiftImm :
    (1 : BitVec 4) ≠ 0 ∧ (2 : BitVec 4) ≠ 0 ∧ (2 : BitVec 4) ≠ 1 ∧ (15 : BitVec 4) ≠ 0 ∧ (15 : BitVec 4) ≠ 1 := by decide

theorem witness_Jump : base.pc.getLsbD 0 = false ∧ (base.setPc 0xFFFE).pc.getLsbD 0 = false := by decide

theorem witness_ConditionalJumps :
    base.pc.getLsbD 0 = false ∧
      (Instr.jg 64, !base.flags.z && base.flags.s == base.flags.o) ∈
        ([(.jc 64, base.flags.c), (.jz 64, base.flags.z), (.js 64, base.flags.s),
          (.jleu 64, base.flags.c || base.flags.z), (.jl 64, base.flags.s != base.flags.o),
          (.jle 64, base.flags.z || base.flags.s != base.flags.o), (.jo 64, base.flags.o), (.jno 64, !base.flags.o),
          (.jnc 64, !base.flags.c), (.jnz 64, !base.flags.z), (.jns 64, !base.flags.s),
          (.jgu 64, !(base.flags.c || base.flags.z)), (.jge 64, base.flags.s == base.flags.o),
          (.jg 64, !base.flags.z && base.flags.s == base.flags.o)] : List (Instr × Bool)) := by decide

theorem witness_JumpAndLink : base.pc.getLsbD 0 = false ∧ (base.setPc 0xFFFE).pc.getLsbD 0 = false := by decide

theorem witness_IndirectJumps :
    (0 : BitVec 7).getLsbD 0 = false ∧ (64 : BitVec 7).getLsbD 0 = false ∧ (63 : BitVec 7).getLsbD 0 = true ∧
      (127 : BitVec 7).getLsbD 0 = true := by decide

theorem witness_SoftwareInterrupt :
    halfRam.canWriteWord .data (halfRam.sp - 2) = true ∧
      (base.setSp 0).canWriteWord .data ((base.setSp 0).sp - 2) = true := by decide

theorem witness_InterruptReturn :
    halfRam.canReadWord .data (halfRam.sp - 2) = true ∧
      (base.setSp 0).canReadWord .data ((base.setSp 0).sp - 2) = true := by decide

theorem witness_EntryThenReturn :
    base.pc.getLsbD 0 = false ∧ base.canWriteWord .data (base.sp - 2) = true := by decide

theorem witness_DisableEnable :
    (Instr.di, false) ∈ ([(.di, false), (.ei, true)] : List (Instr × Bool)) ∧
      (Instr.ei, true) ∈ ([(.di, false), (.ei, true)] : List (Instr × Bool)) := by decide

/-- The first and last selector number, the first reserved number and the last. -/
theorem witness_SelectorAccess :
    (base.gpr .r0).toNat = (0 : Fin 8).val ∧ ((base.setGpr .r0 7).gpr .r0).toNat = (7 : Fin 8).val ∧
      8 ≤ ((base.setGpr .r0 8).gpr .r0).toNat ∧ 8 ≤ ((base.setGpr .r0 0xFFFF).gpr .r0).toNat := by decide

/-- A quiet boundary, a pending interrupt, both ends of the immediates, a word the mini reserves. -/
theorem witness_MiniDifferences :
    halfRam.readable (halfRam.translate (spaceOf .sp) (halfRam.src .sp + BitVec.ofInt 16 (64 : BitVec 7).toInt)) =
        true ∧
      halfRam.canReadWord (spaceOf .sp) (halfRam.src .sp + BitVec.ofInt 16 (64 : BitVec 7).toInt) = true ∧
      halfRam.writable (halfRam.translate (spaceOf .pc) (halfRam.src .pc + BitVec.ofInt 16 (63 : BitVec 7).toInt)) =
        true ∧
      halfRam.canWriteWord (spaceOf .pc) (halfRam.src .pc + BitVec.ofInt 16 (62 : BitVec 7).toInt) = true ∧
      halfRam.canReadWord .data (halfRam.sp + BitVec.ofInt 16 (2 * (32 : BitVec 6).toInt)) = true ∧
      halfRam.canWriteWord .data (halfRam.sp + BitVec.ofInt 16 (2 * (32 : BitVec 6).toInt)) = true ∧
      halfRam.latchIrq.irqPending = false ∧ halfRam.canReadWord .code halfRam.pc = true ∧
      withEdge.latchIrq.irqPending = true ∧ decodeMini 0xFC91 = .reserved 0xFC91 := by decide

end Sys2Proof.Tests
end

/-! Translation of logical addresses (R52): the selector an address chooses and the physical address, as numbers. -/

namespace Sys2Proof.Machine

/-- The quarter of an address, as the selector choice reads it. -/
theorem quarter_toNat (a : Word) : (a.extractLsb' 14 2).toNat = a.toNat / 16384 := by
  have quarter_lt : a.toNat / 16384 < 4 := by have := a.isLt; omega
  rw [BitVec.extractLsb'_toNat, Nat.shiftRight_eq_div_pow]
  exact Nat.mod_eq_of_lt quarter_lt

/-- An address lies in one of the four quarters of its space. -/
theorem quarter_cases (a : Word) :
    (a.extractLsb' 14 2).toNat = 0 ∨ (a.extractLsb' 14 2).toNat = 1 ∨
      (a.extractLsb' 14 2).toNat = 2 ∨ (a.extractLsb' 14 2).toNat = 3 := by
  have quarter_lt := (a.extractLsb' 14 2).isLt
  omega

/-- In the code space quarters 0 to 3 choose selectors 0 to 3. -/
theorem selIndex_code_val (a : Word) : (selIndex .code a).val = a.toNat / 16384 := by
  rw [← quarter_toNat]
  obtain q | q | q | q := quarter_cases a <;> simp [selIndex, q]

/-- The data space has the four selectors after those of the code space. -/
theorem selIndex_data_val (a : Word) : (selIndex .data a).val = (selIndex .code a).val + 4 := by
  obtain q | q | q | q := quarter_cases a <;> simp [selIndex, q]

/-- The chosen selector's byte numbers the 16 KB block, the low 14 bits of the address the byte in it. -/
theorem State.translate_toNat (s : State) (sp : Space) (a : Word) :
    (s.translate sp a).toNat = (s.sels.get (selIndex sp a)).toNat * 16384 + a.toNat % 16384 := by
  have offset : (a.extractLsb' 0 14).toNat = a.toNat % 16384 := by
    rw [BitVec.extractLsb'_toNat, Nat.shiftRight_zero]
  rw [State.translate, BitVec.toNat_append, ← Nat.shiftLeft_add_eq_or_of_lt (BitVec.isLt _),
    Nat.shiftLeft_eq, offset]

/-- Settles O18: the selector a number names is the one `selIndex` chooses, so `State.translate_toNat` gives the value. -/
theorem translation : Obligations.Translation := by
  intro s a k
  refine ⟨fun quarter => ?code, fun quarter => ?data⟩
  case code =>
    have chosen : selIndex .code a = k := Fin.ext (by rw [selIndex_code_val, quarter])
    rw [State.translate_toNat, chosen]
  case data =>
    have chosen : selIndex .data a = k := Fin.ext (by rw [selIndex_data_val, selIndex_code_val, quarter])
    rw [State.translate_toNat, chosen]

end Sys2Proof.Machine

/-! Operands as numbers (R7, R9, R84): the sums and immediates that effective addresses are made of, modulo 2^16. -/

namespace Sys2Proof.Machine

/-- A general register reads as itself (R9). -/
@[simp] theorem State.src_gpr (s : State) (g : Gpr) : s.src (.gpr g) = s.gpr g := rfl

/-- sp reads as itself (R9). -/
@[simp] theorem State.src_sp (s : State) : s.src .sp = s.sp := rfl

/-- pc reads as the address of the next instruction (R26). -/
@[simp] theorem State.src_pc (s : State) : s.src .pc = s.pc + 2 := rfl

/-- A word is the residue of its value as an integer. -/
theorem ofInt_toNat (a : Word) : BitVec.ofInt 16 a.toNat = a := by
  rw [BitVec.ofInt_natCast, BitVec.ofNat_toNat, BitVec.setWidth_eq]

/-- Adding a sign-extended operand adds its signed value. -/
theorem add_sext {n : Nat} (a : Word) (v : BitVec n) : a + sext v = BitVec.ofInt 16 (a.toNat + v.toInt) := by
  rw [BitVec.ofInt_add, ofInt_toNat, sext, BitVec.signExtend]

/-- Adding a zero-extended operand adds its unsigned value. -/
theorem add_zext {n : Nat} (a : Word) (v : BitVec n) : a + zext v = BitVec.ofInt 16 (a.toNat + v.toNat) := by
  rw [BitVec.ofInt_add, ofInt_toNat, BitVec.ofInt_natCast, BitVec.ofNat_toNat, zext]

/-- Relative to pc, a sign-extended operand is added to the address of the next instruction (R120). -/
theorem npc_add_sext {n : Nat} (s : State) (v : BitVec n) :
    s.npc + sext v = BitVec.ofInt 16 (s.pc.toNat + 2 + v.toInt) := by
  have next_pc : s.npc = BitVec.ofInt 16 (s.pc.toNat + 2) := by
    rw [BitVec.ofInt_add, ofInt_toNat]
    rfl
  rw [BitVec.ofInt_add, ← next_pc, sext, BitVec.signExtend]

end Sys2Proof.Machine

/-! Effective addresses and their space (R120, R121). -/

namespace Sys2Proof.Machine

/-- Relative to sp the immediate is unsigned. -/
theorem State.eaImm_sp (s : State) (i : BitVec 7) :
    s.eaImm .sp i = BitVec.ofInt 16 (s.sp.toNat + i.toNat) := add_zext s.sp i

/-- Relative to pc the immediate is signed and counts from the next instruction. -/
theorem State.eaImm_pc (s : State) (i : BitVec 7) :
    s.eaImm .pc i = BitVec.ofInt 16 (s.pc.toNat + 2 + i.toInt) := npc_add_sext s i

/-- Relative to a general register the immediate is signed. -/
theorem State.eaImm_gpr (s : State) (g : Gpr) (i : BitVec 7) :
    s.eaImm (.gpr g) i = BitVec.ofInt 16 ((s.gpr g).toNat + i.toInt) := add_sext (s.gpr g) i

/-- The register + register address is the sum of what the two registers read. -/
theorem State.eaReg_eq_ofNat (s : State) (p : Gpr) (q : Reg) :
    s.eaReg p q = BitVec.ofNat 16 ((s.gpr p).toNat + (s.src q).toNat) := by
  rw [State.eaReg, BitVec.add_def]

/-- Only pc forms code addresses. -/
theorem spaceOf_eq_code_iff (q : Reg) : spaceOf q = .code ↔ q = .pc := by
  cases q <;> simp [spaceOf]

/-- Every other register forms data addresses. -/
theorem spaceOf_eq_data_iff (q : Reg) : spaceOf q = .data ↔ q ≠ .pc := by
  cases q <;> simp [spaceOf]

/-- Settles O23: one lemma per address form, what each register reads, and the space by cases on the register. -/
theorem effectiveAddresses : Obligations.EffectiveAddresses := by
  intro s i g p q
  exact ⟨s.eaImm_sp i, s.eaImm_pc i, s.eaImm_gpr g i, s.eaReg_eq_ofNat p q, s.src_gpr g, s.src_sp, s.src_pc,
    spaceOf_eq_code_iff q, spaceOf_eq_data_iff q⟩

end Sys2Proof.Machine

/-! What every instruction that does not transfer control leaves (R9, R25): pc on the next instruction, and the frame
around the one thing it wrote. -/

namespace Sys2Proof.Machine

/-- A sum of even words is even. -/
theorem getLsbD_zero_add_of_even {a b : Word} (ha : a.getLsbD 0 = false) (hb : b.getLsbD 0 = false) :
    (a + b).getLsbD 0 = false := by
  rw [BitVec.getLsbD_add (by decide), BitVec.carry_zero, ha, hb]
  rfl

/-- The instruction after an even address has an even address (R25). -/
theorem State.npc_even {s : State} (even : s.pc.getLsbD 0 = false) : s.npc.getLsbD 0 = false :=
  getLsbD_zero_add_of_even even rfl

/-- Whatever state has the pc of `s.advance` has advanced. -/
theorem advanced_of_pc {s t : State} (h : t.pc = s.advance.pc) : Advanced s t := fun even =>
  h.trans (dropBit0_of_even (State.npc_even even))

/-- A general register and the flags written, and pc advanced, is all that `aluResult` does. -/
theorem wroteReg_aluResult (s : State) (d : Gpr) (v : Word) (f : Flags) :
    ∃ t, aluResult s d (v, f) = .next t ∧ WroteReg s t d v f := by
  have others : SameGprs s ((s.advance.setGpr d v).setFlags f) [d] := fun g other =>
    State.setGpr_gpr_other s.advance v (List.ne_of_not_mem_cons other)
  exact ⟨_, rfl, State.setGpr_gpr_same s.advance d v, rfl, rfl, rfl, advanced_of_pc rfl,
    others, fun _ _ => rfl, rfl, rfl, rfl, rfl, rfl, rfl, rfl⟩

/-- Writing an even value to sp after advancing changes sp and pc only. -/
theorem wroteSp_advance_setSp (s : State) {v : Word} (even : v.getLsbD 0 = false) :
    WroteSp s (s.advance.setSp v) v :=
  ⟨dropBit0_of_even even, rfl, rfl, advanced_of_pc rfl,
    fun _ _ => rfl, fun _ _ => rfl, rfl, rfl, rfl, rfl, rfl, rfl, rfl⟩

end Sys2Proof.Machine

/-! The flag computations in exact integers (R180 to R182). -/

namespace Sys2Proof.Machine

/-- A carry counts as the number its bit stands for. -/
@[simp] theorem carryNat_eq_toNat (c : Bool) : carryNat c = c.toNat := by
  cases c <;> rfl

/-- Signed overflow is lying outside -32768..32767. -/
theorem signedOverflow_iff (t : Int) : signedOverflow t = true ↔ t < -32768 ∨ 32767 < t := by
  rw [signedOverflow, Bool.or_eq_true, decide_eq_true_iff, decide_eq_true_iff]

/-- The sum that AddFlags gives is that of the words, plus the carry in, modulo 2^16. -/
theorem addFlags_value (a b : Word) (c : Bool) :
    (addFlags a b c).1 = BitVec.ofNat 16 (a.toNat + b.toNat + c.toNat) := by
  rw [← carryNat_eq_toNat]
  rfl

/-- Without a carry in, AddFlags adds the two words. -/
theorem addFlags_value_false (a b : Word) : (addFlags a b false).1 = a + b := by
  rw [addFlags_value, BitVec.add_def]
  rfl

/-- The carry of AddFlags is the unsigned overflow. -/
theorem addFlags_carry_iff (a b : Word) (c : Bool) :
    (addFlags a b c).2.c = true ↔ 65536 ≤ a.toNat + b.toNat + c.toNat := by
  rw [← carryNat_eq_toNat]
  exact decide_eq_true_iff

/-- The overflow of AddFlags is that of the exact signed sum. -/
theorem addFlags_overflow_iff (a b : Word) (c : Bool) :
    (addFlags a b c).2.o = true ↔ a.toInt + b.toInt + c.toNat < -32768 ∨ 32767 < a.toInt + b.toInt + c.toNat := by
  rw [← carryNat_eq_toNat]
  exact signedOverflow_iff _

/-- The difference that SubFlags gives is that of the words, less the borrow in, modulo 2^16. -/
theorem subFlags_value (a b : Word) (c : Bool) :
    (subFlags a b c).1 = BitVec.ofInt 16 ((a.toNat : Int) - b.toNat - c.toNat) := by
  rw [← carryNat_eq_toNat]
  rfl

/-- C of SubFlags is the borrow: the exact unsigned difference is negative. -/
theorem subFlags_borrow_iff (a b : Word) (c : Bool) :
    (subFlags a b c).2.c = true ↔ a.toNat < b.toNat + c.toNat := by
  have negative : (subFlags a b c).2.c = true ↔ (a.toNat : Int) - b.toNat - c.toNat < 0 := by
    rw [← carryNat_eq_toNat]
    exact decide_eq_true_iff
  rw [negative]
  omega

/-- The overflow of SubFlags is that of the exact signed difference. -/
theorem subFlags_overflow_iff (a b : Word) (c : Bool) :
    (subFlags a b c).2.o = true ↔ a.toInt - b.toInt - c.toNat < -32768 ∨ 32767 < a.toInt - b.toInt - c.toNat := by
  rw [← carryNat_eq_toNat]
  exact signedOverflow_iff _

/-- Z and S of LogicFlags say whether the value is zero, and give its bit 15. -/
theorem logicFlags_zero_sign (v : Word) : ((logicFlags v).z = true ↔ v = 0) ∧ (logicFlags v).s = v.msb :=
  ⟨beq_iff_eq, (BitVec.msb_eq_getLsbD_last v).symm⟩

/-- AddFlags has Z and S of its result in common with LogicFlags. -/
theorem addFlags_zero_sign (a b : Word) (c : Bool) :
    ((addFlags a b c).2.z = true ↔ (addFlags a b c).1 = 0) ∧ (addFlags a b c).2.s = (addFlags a b c).1.msb :=
  logicFlags_zero_sign (addFlags a b c).1

/-- SubFlags has Z and S of its result in common with LogicFlags. -/
theorem subFlags_zero_sign (a b : Word) (c : Bool) :
    ((subFlags a b c).2.z = true ↔ (subFlags a b c).1 = 0) ∧ (subFlags a b c).2.s = (subFlags a b c).1.msb :=
  logicFlags_zero_sign (subFlags a b c).1

/-- Settles O15: the value and the meaning of each flag, function by function. -/
theorem flagFunctions : Obligations.FlagFunctions := by
  intro a b c
  refine ⟨?add, ?sub, ?logic⟩
  case add =>
    have value : (addFlags a b c).1 = BitVec.ofNat 16 ((a.toNat + b.toNat + c.toNat) % 65536) := by
      rw [addFlags_value]
      exact BitVec.eq_of_toNat_eq (by simp only [BitVec.toNat_ofNat, Nat.reducePow, Nat.mod_mod])
    obtain ⟨zero, sign⟩ := addFlags_zero_sign a b c
    exact ⟨value, addFlags_carry_iff a b c, zero, sign, addFlags_overflow_iff a b c⟩
  case sub =>
    obtain ⟨zero, sign⟩ := subFlags_zero_sign a b c
    exact ⟨subFlags_value a b c, subFlags_borrow_iff a b c, zero, sign, subFlags_overflow_iff a b c⟩
  case logic =>
    obtain ⟨zero, sign⟩ := logicFlags_zero_sign a
    exact ⟨rfl, zero, sign, rfl⟩

end Sys2Proof.Machine

/-! The fields of instruction words put together from their parts (R81, R82). -/

namespace Sys2Proof

/-- The field of a general register names that register. -/
@[simp] theorem Reg.ofBits_gprBits (g : Gpr) : Reg.ofBits g.bits = .gpr g := by
  cases g <;> rfl

/-- The field of a register names that register. -/
@[simp] theorem Reg.ofBits_bits (r : Reg) : Reg.ofBits r.bits = r := by
  rcases r with g | _ | _
  · exact Reg.ofBits_gprBits g
  · rfl
  · rfl

/-! ### A six-bit opcode, a register in bits 9:7, seven immediate bits -/

section OpcodeRegisterImm7
variable (op : BitVec 6) (r : BitVec 3) (i : BitVec 7)

theorem fMajor_opcode_imm7 : fMajor (op ++ r ++ i) = op.extractLsb' 3 3 := by
  rw [fMajor, BitVec.extractLsb'_append_eq_of_le (by decide), BitVec.extractLsb'_append_eq_of_le (by decide)]

theorem fRrr_opcode_imm7 : fRrr (op ++ r ++ i) = Reg.ofBits (op.extractLsb' 0 3) := by
  rw [fRrr, BitVec.extractLsb'_append_eq_of_le (by decide), BitVec.extractLsb'_append_eq_of_le (by decide)]

theorem fRRR_opcode_imm7 : fRRR (op ++ r ++ i) = Reg.ofBits r := by
  rw [fRRR, BitVec.extractLsb'_append_eq_of_le (by decide)]
  exact congrArg Reg.ofBits BitVec.extractLsb'_append_eq_right

theorem fImm7_opcode_imm7 : fImm7 (op ++ r ++ i) = i := BitVec.extractLsb'_append_eq_right

end OpcodeRegisterImm7

/-! ### A major opcode, a register in bits 12:10, bit 9, nine immediate bits -/

section MajorRegisterImm9
variable (major r : BitVec 3) (x : BitVec 1) (n : BitVec 9)

theorem fMajor_major_imm9 : fMajor (major ++ r ++ x ++ n) = major := by
  rw [fMajor, BitVec.extractLsb'_append_eq_of_le (by decide), BitVec.extractLsb'_append_eq_of_le (by decide)]
  exact BitVec.extractLsb'_append_eq_left

theorem fRrr_major_imm9 : fRrr (major ++ r ++ x ++ n) = Reg.ofBits r := by
  rw [fRrr, BitVec.extractLsb'_append_eq_of_le (by decide), BitVec.extractLsb'_append_eq_of_le (by decide)]
  exact congrArg Reg.ofBits BitVec.extractLsb'_append_eq_right

theorem getLsbD_nine_major_imm9 : (major ++ r ++ x ++ n).getLsbD 9 = x.getLsbD 0 := by
  simp only [BitVec.getLsbD_append]
  rfl

theorem fImm9_major_imm9 : fImm9 (major ++ r ++ x ++ n) = n := BitVec.extractLsb'_append_eq_right

end MajorRegisterImm9

/-! ### The decoder on these words -/

theorem decodeWord_andImm (r : Gpr) (i : BitVec 7) : decodeWord (0b000110#6 ++ r.bits ++ i) = .andImm r i := by
  rw [decodeWord, fMajor_opcode_imm7]
  change decode0 _ = _
  rw [decode0, fRrr_opcode_imm7, fRRR_opcode_imm7, Reg.ofBits_gprBits, fImm7_opcode_imm7]
  rfl

theorem decodeWord_orImm (r : Gpr) (i : BitVec 7) : decodeWord (0b000111#6 ++ r.bits ++ i) = .orImm r i := by
  rw [decodeWord, fMajor_opcode_imm7]
  change decode0 _ = _
  rw [decode0, fRrr_opcode_imm7, fRRR_opcode_imm7, Reg.ofBits_gprBits, fImm7_opcode_imm7]
  rfl

theorem decodeWord_xorImm (r : Gpr) (i : BitVec 7) : decodeWord (0b010110#6 ++ r.bits ++ i) = .xorImm r i := by
  rw [decodeWord, fMajor_opcode_imm7]
  change decode2 _ = _
  rw [decode2, fRrr_opcode_imm7, fRRR_opcode_imm7, Reg.ofBits_gprBits, fImm7_opcode_imm7]
  rfl

/-- The encoding of addu with pc in the register field belongs to other instructions (R97). -/
theorem decodeWord_addu (d : Reg) (n : BitVec 9) (ne : d ≠ .pc) :
    decodeWord (0b101#3 ++ d.bits ++ 0b1#1 ++ n) = .addu d n := by
  rw [decodeWord, fMajor_major_imm9]
  change decode5 _ = _
  rw [decode5, fRrr_major_imm9, Reg.ofBits_bits, getLsbD_nine_major_imm9, fImm9_major_imm9]
  rcases d with g | _ | _
  · rfl
  · rfl
  · exact absurd rfl ne

end Sys2Proof

/-! and, or, xor with an immediate (R188 to R190) and addu (R202). -/

namespace Sys2Proof.Machine

/-- A zero-extended immediate is its number. -/
theorem zext_eq_ofNat {n : Nat} (v : BitVec n) : zext v = BitVec.ofNat 16 v.toNat := (BitVec.ofNat_toNat 16 v).symm

/-- `imm9 << 7` is 128 times the immediate. -/
theorem upperImm_eq_ofNat (n : BitVec 9) : upperImm n = BitVec.ofNat 16 (n.toNat * 128) := by
  have small : n.toNat * 128 < 65536 := by
    have := n.isLt
    omega
  refine BitVec.eq_of_toNat_eq ?_
  rw [upperImm, BitVec.toNat_append, BitVec.toNat_ofNat, BitVec.toNat_ofNat, Nat.shiftLeft_eq, Nat.zero_mod,
    Nat.or_zero, Nat.mod_eq_of_lt small]

/-- `imm9 << 7` is even. -/
theorem upperImm_even (n : BitVec 9) : (upperImm n).getLsbD 0 = false := by
  rw [upperImm, BitVec.getLsbD_append]
  rfl

/-- Anding with a zero-extended 7-bit immediate clears bits 15:7. -/
theorem and_ofNat_high (v : Word) (i : BitVec 7) : (v &&& BitVec.ofNat 16 i.toNat).extractLsb' 7 9 = 0 := by
  have cleared : (zext i).extractLsb' 7 9 = 0 := by
    rw [zext, BitVec.setWidth_eq_append (by decide)]
    exact BitVec.extractLsb'_append_eq_left
  rw [← zext_eq_ofNat, BitVec.extractLsb'_and, cleared]
  exact BitVec.and_zero

/-- `logicResult` writes a value and its LogicFlags, and nothing else. -/
theorem wroteReg_logicResult (s : State) (d : Gpr) (v : Word) :
    ∃ t, logicResult s d v = .next t ∧ WroteReg s t d v (logicFlags v) := wroteReg_aluResult s d v (logicFlags v)

theorem exec_andImm (s : State) (r : Gpr) (i : BitVec 7) :
    exec (.andImm r i) s = logicResult s r (s.gpr r &&& BitVec.ofNat 16 i.toNat) := by
  rw [← zext_eq_ofNat]
  rfl

theorem exec_orImm (s : State) (r : Gpr) (i : BitVec 7) :
    exec (.orImm r i) s = logicResult s r (s.gpr r ||| BitVec.ofNat 16 i.toNat) := by
  rw [← zext_eq_ofNat]
  rfl

theorem exec_xorImm (s : State) (r : Gpr) (i : BitVec 7) :
    exec (.xorImm r i) s = logicResult s r (s.gpr r ^^^ BitVec.ofNat 16 i.toNat) := by
  rw [← zext_eq_ofNat]
  rfl

/-- Settles O39: the decoder's rows, and `logicResult` of the combined value for each of the three. -/
theorem logicImm : Obligations.LogicImm := by
  refine ⟨fun r i => ⟨decodeWord_andImm r i, decodeWord_orImm r i, decodeWord_xorImm r i⟩, fun s r i => ?_⟩
  rw [exec_andImm, exec_orImm, exec_xorImm]
  refine ⟨?and, wroteReg_logicResult s r _, wroteReg_logicResult s r _⟩
  obtain ⟨t, ran, wrote⟩ := wroteReg_logicResult s r (s.gpr r &&& BitVec.ofNat 16 i.toNat)
  have ⟨value, _⟩ := wrote
  exact ⟨t, ran, wrote, value ▸ and_ofNat_high (s.gpr r) i⟩

/-- addu on a general register writes the sum with the flags of that addition. -/
theorem exec_addu_gpr (s : State) (d : Gpr) (n : BitVec 9) :
    exec (.addu (.gpr d) n) s =
      aluResult s d (s.gpr d + BitVec.ofNat 16 (n.toNat * 128),
        (addFlags (s.gpr d) (BitVec.ofNat 16 (n.toNat * 128)) false).2) := by
  rw [← addFlags_value_false, ← upperImm_eq_ofNat]
  rfl

/-- addu on sp writes the sum with bit 0 dropped and leaves the flags. -/
theorem exec_addu_sp (s : State) (n : BitVec 9) :
    exec (.addu .sp n) s = .next (s.advance.setSp (s.sp + upperImm n)) := rfl

/-- Settles O41: from an even sp the sum is even, so dropping bit 0 leaves it. -/
theorem addUpper : Obligations.AddUpper := by
  refine ⟨decodeWord_addu, fun s n => ⟨fun d => ?gpr, fun even => ?sp⟩⟩
  case gpr =>
    rw [exec_addu_gpr]
    exact wroteReg_aluResult s d _ _
  case sp =>
    have sum_even := getLsbD_zero_add_of_even even (upperImm_even n)
    rw [exec_addu_sp, ← upperImm_eq_ofNat]
    exact ⟨_, rfl, wroteSp_advance_setSp s sum_even⟩

end Sys2Proof.Machine

/-! Words of the shifts and rotates by an immediate count (R81, R99): their fields, and the decoder on them. -/

namespace Sys2Proof

/-! ### A nine-bit opcode, a register in bits 6:4, a count -/

section OpcodeRegisterCount
variable (op : BitVec 9) (r : BitVec 3) (k : BitVec 4)

theorem fMajor_opcode_count : fMajor (op ++ r ++ k) = op.extractLsb' 6 3 := by
  rw [fMajor, BitVec.extractLsb'_append_eq_of_le (by decide), BitVec.extractLsb'_append_eq_of_le (by decide)]

theorem fRrr_opcode_count : fRrr (op ++ r ++ k) = Reg.ofBits (op.extractLsb' 3 3) := by
  rw [fRrr, BitVec.extractLsb'_append_eq_of_le (by decide), BitVec.extractLsb'_append_eq_of_le (by decide)]

theorem fSub_opcode_count : fSub (op ++ r ++ k) = op.extractLsb' 0 3 := by
  rw [fSub, BitVec.extractLsb'_append_eq_of_le (by decide), BitVec.extractLsb'_append_eq_of_le (by decide)]

theorem fPPP_opcode_count : fPPP (op ++ r ++ k) = Reg.ofBits r := by
  rw [fPPP, BitVec.extractLsb'_append_eq_of_le (by decide)]
  exact congrArg Reg.ofBits BitVec.extractLsb'_append_eq_right

theorem fImm4_opcode_count : fImm4 (op ++ r ++ k) = k := BitVec.extractLsb'_append_eq_right

end OpcodeRegisterCount

/-! ### A major opcode, a register in bits 12:10, six opcode bits, a count -/

section MajorRegisterOpcodeCount
variable (major r : BitVec 3) (x : BitVec 6) (k : BitVec 4)

theorem fMajor_major_count : fMajor (major ++ r ++ x ++ k) = major := by
  rw [fMajor, BitVec.extractLsb'_append_eq_of_le (by decide), BitVec.extractLsb'_append_eq_of_le (by decide)]
  exact BitVec.extractLsb'_append_eq_left

theorem fRrr_major_count : fRrr (major ++ r ++ x ++ k) = Reg.ofBits r := by
  rw [fRrr, BitVec.extractLsb'_append_eq_of_le (by decide), BitVec.extractLsb'_append_eq_of_le (by decide)]
  exact congrArg Reg.ofBits BitVec.extractLsb'_append_eq_right

theorem fSub_major_count : fSub (major ++ r ++ x ++ k) = x.extractLsb' 3 3 := by
  rw [fSub, BitVec.extractLsb'_append_eq_of_le (by decide), BitVec.extractLsb'_append_eq_of_add_le (by decide)]

theorem fPPP_major_count : fPPP (major ++ r ++ x ++ k) = Reg.ofBits (x.extractLsb' 0 3) := by
  rw [fPPP, BitVec.extractLsb'_append_eq_of_le (by decide), BitVec.extractLsb'_append_eq_of_add_le (by decide)]

theorem fImm4_major_count : fImm4 (major ++ r ++ x ++ k) = k := BitVec.extractLsb'_append_eq_right

end MajorRegisterOpcodeCount

/-! ### The decoder on these words -/

/-- Major opcode 111 with 101 in bits 9:7 is the table of shifts by an immediate (R99). -/
theorem decodeWord_eq_decodeShiftImm {w : Word} (major : fMajor w = 0b111#3) (sub : fSub w = 0b101#3) :
    decodeWord w = decodeShiftImm w := by
  rw [decodeWord, major]
  change decode7 w = _
  rw [decode7, sub]
  rfl

theorem decodeWord_srImm (r : Gpr) {k : BitVec 4} (unreserved : k ≠ 0) :
    decodeWord (0b111110101#9 ++ r.bits ++ k) = .srImm r k := by
  rw [decodeWord_eq_decodeShiftImm (fMajor_opcode_count _ _ _) (fSub_opcode_count _ _ _), decodeShiftImm,
    fRrr_opcode_count, fPPP_opcode_count, Reg.ofBits_gprBits, fImm4_opcode_count]
  exact if_neg unreserved

/-- sl reserves the count 1 besides 0 (R220). -/
theorem decodeWord_slImm (r : Gpr) {k : BitVec 4} (ne_zero : k ≠ 0) (ne_one : k ≠ 1) :
    decodeWord (0b111111101#9 ++ r.bits ++ k) = .slImm r k := by
  rw [decodeWord_eq_decodeShiftImm (fMajor_opcode_count _ _ _) (fSub_opcode_count _ _ _), decodeShiftImm,
    fRrr_opcode_count, fPPP_opcode_count, Reg.ofBits_gprBits, fImm4_opcode_count]
  exact if_neg (not_or_intro ne_zero ne_one)

theorem decodeWord_asrImm (r : Gpr) {k : BitVec 4} (unreserved : k ≠ 0) :
    decodeWord (0b111#3 ++ r.bits ++ 0b101110#6 ++ k) = .asrImm r k := by
  rw [decodeWord_eq_decodeShiftImm (fMajor_major_count _ _ _ _) (fSub_major_count _ _ _ _), decodeShiftImm,
    fRrr_major_count, fPPP_major_count, Reg.ofBits_gprBits, fImm4_major_count]
  exact if_neg unreserved

theorem decodeWord_rlImm (r : Gpr) {k : BitVec 4} (unreserved : k ≠ 0) :
    decodeWord (0b111#3 ++ r.bits ++ 0b101111#6 ++ k) = .rlImm r k := by
  rw [decodeWord_eq_decodeShiftImm (fMajor_major_count _ _ _ _) (fSub_major_count _ _ _ _), decodeShiftImm,
    fRrr_major_count, fPPP_major_count, Reg.ofBits_gprBits, fImm4_major_count]
  exact if_neg unreserved

end Sys2Proof

/-! Shifts and rotates by an immediate count (R216 to R219). -/

namespace Sys2Proof.Machine

/-- Rotating left by n is rotating right by 16 - n: this is why there is no rr with an immediate (R219). -/
theorem rotateLeft_eq_rotateRight (v : Word) {n : Nat} (le : n ≤ 16) : rotateLeft v n = rotateRight v (16 - n) := by
  rw [rotateLeft, rotateRight, Nat.sub_sub_self le]
  exact BitVec.or_comm _ _

/-- A shift by an immediate writes the shifted register and the LogicFlags of it, and nothing else (R222). -/
theorem wroteReg_shiftByImm (f : Word → Nat → Word) (r : Gpr) (k : BitVec 4) (s : State) :
    ∃ t, shiftByImm f r k s = .next t ∧
      WroteReg s t r (f (s.gpr r) k.toNat) (logicFlags (f (s.gpr r) k.toNat)) :=
  wroteReg_logicResult s r (f (s.gpr r) k.toNat)

theorem exec_srImm (r : Gpr) (k : BitVec 4) (s : State) : exec (.srImm r k) s = shiftByImm shiftRight r k s := rfl

theorem exec_slImm (r : Gpr) (k : BitVec 4) (s : State) : exec (.slImm r k) s = shiftByImm shiftLeft r k s := rfl

theorem exec_asrImm (r : Gpr) (k : BitVec 4) (s : State) : exec (.asrImm r k) s = shiftByImm shiftArith r k s := rfl

theorem exec_rlImm (r : Gpr) (k : BitVec 4) (s : State) : exec (.rlImm r k) s = shiftByImm rotateLeft r k s := rfl

/-- Settles O46: the decoder's rows, one lemma for what all four leave, and rl's result read as a rotate right. -/
theorem shiftImm : Obligations.ShiftImm := by
  refine ⟨fun r k unreserved => ⟨decodeWord_srImm r unreserved, decodeWord_slImm r unreserved,
    decodeWord_asrImm r unreserved, decodeWord_rlImm r unreserved⟩, fun s r k => ?_⟩
  rw [exec_srImm, exec_slImm, exec_asrImm, exec_rlImm]
  refine ⟨wroteReg_shiftByImm shiftRight r k s, wroteReg_shiftByImm shiftLeft r k s,
    wroteReg_shiftByImm shiftArith r k s, ?rl⟩
  obtain ⟨t, ran, wrote⟩ := wroteReg_shiftByImm rotateLeft r k s
  have ⟨value, _⟩ := wrote
  exact ⟨t, ran, wrote, fun _ => value.trans (rotateLeft_eq_rotateRight (s.gpr r) k.isLt.le)⟩

end Sys2Proof.Machine

/-! The word of lurpc (R98, R230): the decoder on it. -/

namespace Sys2Proof

/-- Bit 9 is the top bit of the opcode in bits 9:7. -/
theorem msb_fSub (w : Word) : (fSub w).msb = w.getLsbD 9 := by
  rw [fSub, BitVec.msb_eq_getLsbD_last, BitVec.getLsbD_extractLsb']
  rfl

/-- With a general register in bits 12:10, bit 9 tells lurpc from the rest of major opcode 110 (R98). -/
theorem decode6_of_bit_nine {w : Word} {d : Gpr} (register : fRrr w = .gpr d) (bit_nine : w.getLsbD 9 = true) :
    decode6 w = .lurpc d (fImm9 w) := by
  have sub_ge : 4 ≤ (fSub w).toNat := BitVec.toNat_ge_of_msb_true ((msb_fSub w).trans bit_nine)
  obtain ⟨k, sub_eq⟩ := Nat.exists_eq_add_of_le' sub_ge
  rw [decode6, register, sub_eq]
  cases fOdd w
  · rfl
  · rfl

theorem decodeWord_lurpc (d : Gpr) (n : BitVec 9) : decodeWord (0b110#3 ++ d.bits ++ 0b1#1 ++ n) = .lurpc d n := by
  rw [decodeWord, fMajor_major_imm9]
  change decode6 _ = _
  have register := (fRrr_major_imm9 0b110#3 d.bits 0b1#1 n).trans (Reg.ofBits_gprBits d)
  rw [decode6_of_bit_nine register (getLsbD_nine_major_imm9 _ _ _ _), fImm9_major_imm9]

end Sys2Proof

/-! lurpc: the pc of the next instruction plus imm9 << 7 (R230). -/

namespace Sys2Proof.Machine

/-- A general register written, the flags kept, and pc advanced, is all that `plainResult` does. -/
theorem wroteReg_plainResult (s : State) (d : Gpr) (v : Word) :
    ∃ t, plainResult s d v = .next t ∧ WroteReg s t d v s.flags := wroteReg_aluResult s d v s.flags

/-- The address of the next instruction is the number pc + 2, modulo 2^16. -/
theorem State.npc_eq_ofNat (s : State) : s.npc = BitVec.ofNat 16 (s.pc.toNat + 2) := by
  rw [State.npc, BitVec.ofNat_add, BitVec.ofNat_toNat, BitVec.setWidth_eq]
  rfl

theorem exec_lurpc (s : State) (d : Gpr) (n : BitVec 9) :
    exec (.lurpc d n) s = plainResult s d (BitVec.ofNat 16 (s.pc.toNat + 2 + n.toNat * 128)) := by
  rw [BitVec.ofNat_add, ← State.npc_eq_ofNat, ← upperImm_eq_ofNat]
  rfl

/-- Settles O47: the decoder's row, and `plainResult` of the sum read as a number. -/
theorem loadUpperPc : Obligations.LoadUpperPc := by
  refine ⟨decodeWord_lurpc, fun s d n => ?_⟩
  rw [exec_lurpc]
  exact wroteReg_plainResult s d _

end Sys2Proof.Machine

/-! Words of j and jal (R81, R97, R98): their fields, and the decoder on them. -/

namespace Sys2Proof

/-! ### A seven-bit opcode, eight immediate bits, bit 0 -/

section OpcodeImm8Bit
variable (op : BitVec 7) (k : BitVec 8) (x : BitVec 1)

theorem fMajor_opcode_imm8 : fMajor (op ++ k ++ x) = op.extractLsb' 4 3 := by
  rw [fMajor, BitVec.extractLsb'_append_eq_of_le (by decide), BitVec.extractLsb'_append_eq_of_le (by decide)]

theorem fRrr_opcode_imm8 : fRrr (op ++ k ++ x) = Reg.ofBits (op.extractLsb' 1 3) := by
  rw [fRrr, BitVec.extractLsb'_append_eq_of_le (by decide), BitVec.extractLsb'_append_eq_of_le (by decide)]

theorem getLsbD_nine_opcode_imm8 : (op ++ k ++ x).getLsbD 9 = op.getLsbD 0 := by
  simp only [BitVec.getLsbD_append]
  rfl

theorem fOdd_opcode_imm8 : fOdd (op ++ k ++ x) = x.getLsbD 0 := by
  rw [fOdd, BitVec.getLsbD_append]
  rfl

theorem fImm8_opcode_imm8 : fImm8 (op ++ k ++ x) = k := by
  rw [fImm8, BitVec.extractLsb'_append_eq_of_le (by decide)]
  exact BitVec.extractLsb'_append_eq_right

end OpcodeImm8Bit

/-! ### A five-bit opcode, eleven immediate bits -/

section OpcodeImm11
variable (op : BitVec 5) (k : BitVec 11)

theorem fMajor_opcode_imm11 : fMajor (op ++ k) = op.extractLsb' 2 3 := by
  rw [fMajor, BitVec.extractLsb'_append_eq_of_le (by decide)]

/-- Bits 12 and 11 belong to the opcode, bit 10 to the immediate. -/
theorem fRrr_opcode_imm11 : fRrr (op ++ k) = Reg.ofBits (op.extractLsb' 0 2 ++ k.extractLsb' 10 1) := by
  rw [fRrr, BitVec.extractLsb'_append_eq_ite, dif_pos (by decide), dif_neg (by decide), BitVec.cast_eq]

theorem fImm11_opcode_imm11 : fImm11 (op ++ k) = k := BitVec.extractLsb'_append_eq_right

end OpcodeImm11

/-! ### The decoder on these words -/

/-- Both settings of bit 9 have sp in the register field; bit 0 tells j from the reserved words (R97). -/
theorem decodeWord_j (k : BitVec 8) : decodeWord (0b1011100#7 ++ k ++ 0b1#1) = .j k := by
  rw [decodeWord, fMajor_opcode_imm8]
  change decode5 _ = _
  rw [decode5, fRrr_opcode_imm8, getLsbD_nine_opcode_imm8, fOdd_opcode_imm8, fImm8_opcode_imm8]
  rfl

/-- With 11 in bits 12 and 11 the register field holds sp or pc, whatever bit 10 is. -/
theorem Reg.ofBits_one_one (x : BitVec 1) : Reg.ofBits (0b11#2 ++ x) = .sp ∨ Reg.ofBits (0b11#2 ++ x) = .pc := by
  revert x
  decide

/-- In major opcode 110, sp and pc in bits 12:10 both make jal (R98). -/
theorem decode6_of_sp_or_pc {w : Word} (register : fRrr w = .sp ∨ fRrr w = .pc) : decode6 w = .jal (fImm11 w) := by
  rw [decode6]
  obtain sp | pc := register
  · rw [sp]
  · rw [pc]

theorem decodeWord_jal (k : BitVec 11) : decodeWord (0b11011#5 ++ k) = .jal k := by
  rw [decodeWord, fMajor_opcode_imm11]
  change decode6 _ = _
  have register : fRrr (0b11011#5 ++ k) = .sp ∨ fRrr (0b11011#5 ++ k) = .pc := by
    rw [fRrr_opcode_imm11]
    exact Reg.ofBits_one_one (k.extractLsb' 10 1)
  rw [decode6_of_sp_or_pc register, fImm11_opcode_imm11]

end Sys2Proof

/-! Jumps relative to pc: their targets as numbers, and what they leave (R83, R241, R258). -/

namespace Sys2Proof.Machine

/-- A distance in instructions is twice that many bytes. -/
theorem byteDistance_eq_ofInt {n : Nat} (k : BitVec n) : byteDistance k = BitVec.ofInt 16 (2 * k.toInt) := by
  rw [byteDistance, BitVec.shiftLeft_eq_mul_twoPow, BitVec.mul_comm, BitVec.ofInt_mul]
  rfl

/-- A relative target counts from the next instruction. -/
theorem State.relTarget_eq_ofInt {n : Nat} (s : State) (k : BitVec n) :
    s.relTarget k = BitVec.ofInt 16 (s.pc.toNat + 2 + 2 * k.toInt) := by
  rw [State.relTarget, byteDistance_eq_ofInt, BitVec.ofInt_add, BitVec.ofInt_add _ 2, ofInt_toNat]
  rfl

/-- Byte distances are even. -/
theorem byteDistance_even {n : Nat} (k : BitVec n) : (byteDistance k).getLsbD 0 = false := by
  rw [byteDistance, BitVec.getLsbD_shiftLeft]
  rfl

/-- From an even pc a relative target is even. -/
theorem State.relTarget_even {n : Nat} {s : State} (even : s.pc.getLsbD 0 = false) (k : BitVec n) :
    (s.relTarget k).getLsbD 0 = false :=
  getLsbD_zero_add_of_even (State.npc_even even) (byteDistance_even k)

/-- Writing an even address to pc changes pc only. -/
theorem wentTo_setPc (s : State) {v : Word} (even : v.getLsbD 0 = false) : WentTo s (s.setPc v) v :=
  ⟨dropBit0_of_even even, rfl, rfl, rfl, fun _ _ => rfl, fun _ _ => rfl, rfl, rfl, rfl, rfl, rfl, rfl, rfl⟩

/-- Writing the address of the next instruction to r5 and an even address to pc changes these two only. -/
theorem wentToLinking_setPc (s : State) {v : Word} (even : v.getLsbD 0 = false) :
    WentToLinking s ((s.setGpr .r5 s.npc).setPc v) v := by
  have others : SameGprs s ((s.setGpr .r5 s.npc).setPc v) [.r5] := fun g other =>
    State.setGpr_gpr_other s s.npc (List.ne_of_not_mem_cons other)
  exact ⟨dropBit0_of_even even, State.setGpr_gpr_same s .r5 s.npc, rfl, rfl, rfl,
    others, fun _ _ => rfl, rfl, rfl, rfl, rfl, rfl, rfl, rfl⟩

/-- From an even pc, advancing sets pc to the next instruction and nothing else. -/
theorem State.advance_of_even {s : State} (even : s.pc.getLsbD 0 = false) : s.advance = { s with pc := s.npc } :=
  congrArg (fun v => { s with pc := v }) (dropBit0_of_even (State.npc_even even))

theorem exec_j (k : BitVec 8) (s : State) : exec (.j k) s = .next (s.setPc (s.relTarget k)) := rfl

theorem exec_jal (k : BitVec 11) (s : State) :
    exec (.jal k) s = .next ((s.setGpr .r5 s.npc).setPc (s.relTarget k)) := rfl

/-- `nop` only advances (R242). -/
theorem exec_nop (s : State) : exec Asm.nop s = .next s.advance := by
  have target : s.relTarget (0 : BitVec 8) = s.npc := BitVec.add_zero s.npc
  rw [Asm.nop, exec_j, target]
  rfl

/-- Settles O50: the decoder's row, a write of the even target to pc, and nop as the jump of distance 0. -/
theorem jump : Obligations.Jump := by
  refine ⟨decodeWord_j, fun s even => ⟨fun k => ?goes, ?nop⟩⟩
  case goes =>
    rw [exec_j, ← State.relTarget_eq_ofInt]
    exact ⟨_, rfl, wentTo_setPc s (State.relTarget_even even k)⟩
  case nop =>
    rw [exec_nop, State.advance_of_even even]
    rfl

/-- Settles O52: the decoder's row, and writes of the return address to r5 and of the even target to pc. -/
theorem jumpAndLink : Obligations.JumpAndLink := by
  refine ⟨decodeWord_jal, fun s k even => ?_⟩
  rw [exec_jal, ← State.relTarget_eq_ofInt]
  exact ⟨_, rfl, wentToLinking_setPc s (State.relTarget_even even k)⟩

end Sys2Proof.Machine

/-! The state after reset (R350): the values the spec gives, and block 0 under the low quarter of each space. -/

namespace Sys2Proof.Machine

/-- The low quarter of a space is mapped by its first selector. -/
theorem selIndex_of_low {a : Word} (low : a.toNat < 0x4000) : selIndex .code a = 0 ∧ selIndex .data a = 4 := by
  have quarter : a.toNat / 16384 = 0 := Nat.div_eq_of_lt low
  have code : (selIndex .code a).val = 0 := by rw [selIndex_code_val, quarter]
  have data : (selIndex .data a).val = 4 := by rw [selIndex_data_val, code]
  exact ⟨Fin.ext code, Fin.ext data⟩

/-- In the low quarter, a selector that names block 0 maps an address to itself. -/
theorem State.translate_toNat_of_low {s : State} {sp : Space} {a : Word} (low : a.toNat < 0x4000)
    (block : s.sels.get (selIndex sp a) = 0) : (s.translate sp a).toNat = a.toNat := by
  rw [State.translate_toNat, block, Nat.mod_eq_of_lt low]
  exact Nat.zero_add a.toNat

section Reset

variable (u : Unspecified) (platform : List Region) (edges : List (BitVec 6)) (n : Nat)

@[simp] theorem State.resetWith_pc : (State.resetWith u platform edges n).pc = 0 := rfl

@[simp] theorem State.resetWith_ie : (State.resetWith u platform edges n).ie = false := rfl

@[simp] theorem State.resetWith_sel0 : (State.resetWith u platform edges n).sels.get 0 = 0 := rfl

@[simp] theorem State.resetWith_sel4 : (State.resetWith u platform edges n).sels.get 4 = 0 := rfl

/-- Reset saves nothing: memory is as it was. -/
@[simp] theorem State.resetWith_mem : (State.resetWith u platform edges n).mem = u.mem := rfl

/-- After reset the low quarter of each space lies in physical block 0. -/
theorem State.resetWith_translate_of_low {a : Word} (low : a.toNat < 0x4000) (sp : Space) :
    ((State.resetWith u platform edges n).translate sp a).toNat = a.toNat := by
  obtain ⟨code, data⟩ := selIndex_of_low low
  refine State.translate_toNat_of_low low ?_
  cases sp with
  | code => rw [code, State.resetWith_sel0]
  | data => rw [data, State.resetWith_sel4]

/-- The first fetch reads physical address 0. -/
theorem State.resetWith_translate_pc :
    (State.resetWith u platform edges n).translate .code (State.resetWith u platform edges n).pc = 0 := by
  have pc_low : (State.resetWith u platform edges n).pc.toNat < 0x4000 := by
    rw [State.resetWith_pc]
    decide
  exact BitVec.eq_of_toNat_eq (State.resetWith_translate_of_low u platform edges n pc_low .code)

end Reset

/-- Settles O8: the fields are those reset gives, and sel0 = sel4 = 0 map the low quarters to block 0. -/
theorem resetState : Obligations.ResetState := by
  intro u platform edges n
  exact ⟨State.resetWith_pc u platform edges n, State.resetWith_ie u platform edges n,
    State.resetWith_sel0 u platform edges n, State.resetWith_sel4 u platform edges n,
    State.resetWith_mem u platform edges n, State.resetWith_translate_pc u platform edges n,
    fun _ low => ⟨State.resetWith_translate_of_low u platform edges n low .code,
      State.resetWith_translate_of_low u platform edges n low .data⟩⟩

end Sys2Proof.Machine

/-! Instruction words by their fields (R81): every word is its major opcode, the two registers in bits 12:10 and 9:7,
and seven low bits; those of the register-register and unary forms are a register, bit 3, and III or a register. -/

namespace Sys2Proof

/-- The word with the given major opcode, registers in bits 12:10 and 9:7, and bits 6:0 (R81). -/
def fieldsWord (m : BitVec 3) (a b : Reg) (i : BitVec 7) : Word := m ++ a.bits ++ b.bits ++ i

/-- Bits 6:0 that hold a register, bit 3 and bits 2:0 (R81). -/
def lowFields (p : Reg) (l : Bool) (x : BitVec 3) : BitVec 7 := p.bits ++ BitVec.ofBool l ++ x

/-! ### Every word has fields -/

@[simp] theorem Reg.bits_ofBits (f : BitVec 3) : (Reg.ofBits f).bits = f := by
  revert f
  decide

theorem exists_fieldsWord (w : Word) : ∃ m a b i, w = fieldsWord m a b i := by
  refine ⟨fMajor w, fRrr w, fRRR w, fImm7 w, ?_⟩
  rw [fieldsWord, fRrr, fRRR, Reg.bits_ofBits, Reg.bits_ofBits, fMajor, fImm7,
    BitVec.extractLsb'_append_extractLsb'_eq_extractLsb' (rfl : 13 = 10 + 3),
    BitVec.extractLsb'_append_extractLsb'_eq_extractLsb' (rfl : 10 = 7 + 3),
    BitVec.extractLsb'_append_extractLsb'_eq_extractLsb' (rfl : 7 = 0 + 7)]
  exact BitVec.extractLsb'_eq_self.symm

theorem ofBool_getLsbD_zero (x : BitVec 1) : BitVec.ofBool (x.getLsbD 0) = x := by
  revert x
  decide

theorem exists_lowFields (i : BitVec 7) : ∃ p l x, i = lowFields p l x := by
  refine ⟨Reg.ofBits (i.extractLsb' 4 3), (i.extractLsb' 3 1).getLsbD 0, i.extractLsb' 0 3, ?_⟩
  rw [lowFields, Reg.bits_ofBits, ofBool_getLsbD_zero,
    BitVec.extractLsb'_append_extractLsb'_eq_extractLsb' (rfl : 4 = 3 + 1),
    BitVec.extractLsb'_append_extractLsb'_eq_extractLsb' (rfl : 3 = 0 + 3)]
  exact BitVec.extractLsb'_eq_self.symm

/-! ### The fields of a word given by its fields -/

section FieldsWord
variable (m : BitVec 3) (a b : Reg) (i : BitVec 7)

@[simp] theorem fMajor_fieldsWord : fMajor (fieldsWord m a b i) = m := by
  rw [fMajor, fieldsWord, BitVec.extractLsb'_append_eq_of_le (by decide),
    BitVec.extractLsb'_append_eq_of_le (by decide), BitVec.extractLsb'_append_eq_of_le (by decide)]
  exact BitVec.extractLsb'_eq_self

@[simp] theorem fRrr_fieldsWord : fRrr (fieldsWord m a b i) = a := by
  rw [fRrr, fieldsWord, BitVec.extractLsb'_append_eq_of_le (by decide),
    BitVec.extractLsb'_append_eq_of_le (by decide)]
  exact (congrArg Reg.ofBits BitVec.extractLsb'_append_eq_right).trans (Reg.ofBits_bits a)

@[simp] theorem fSub_fieldsWord : fSub (fieldsWord m a b i) = b.bits := by
  rw [fSub, fieldsWord, BitVec.extractLsb'_append_eq_of_le (by decide)]
  exact BitVec.extractLsb'_append_eq_right

@[simp] theorem fRRR_fieldsWord : fRRR (fieldsWord m a b i) = b :=
  (congrArg Reg.ofBits (fSub_fieldsWord m a b i)).trans (Reg.ofBits_bits b)

@[simp] theorem fImm7_fieldsWord : fImm7 (fieldsWord m a b i) = i := BitVec.extractLsb'_append_eq_right

theorem extractLsb'_fieldsWord_low {start len : Nat} (low : start + len ≤ 7) :
    (fieldsWord m a b i).extractLsb' start len = i.extractLsb' start len :=
  BitVec.extractLsb'_append_eq_of_add_le low

theorem getLsbD_fieldsWord_low {k : Nat} (low : k < 7) : (fieldsWord m a b i).getLsbD k = i.getLsbD k := by
  rw [fieldsWord, BitVec.getLsbD_append, if_pos low]

@[simp] theorem fOdd_fieldsWord : fOdd (fieldsWord m a b i) = i.getLsbD 0 := getLsbD_fieldsWord_low m a b i (by decide)

@[simp] theorem fQ_fieldsWord : fQ (fieldsWord m a b i) = i.getLsbD 3 := getLsbD_fieldsWord_low m a b i (by decide)

@[simp] theorem fImm6_fieldsWord : fImm6 (fieldsWord m a b i) = i.extractLsb' 1 6 :=
  extractLsb'_fieldsWord_low m a b i (by decide)

@[simp] theorem fIII_fieldsWord : fIII (fieldsWord m a b i) = i.extractLsb' 0 3 :=
  extractLsb'_fieldsWord_low m a b i (by decide)

@[simp] theorem fImm4_fieldsWord : fImm4 (fieldsWord m a b i) = i.extractLsb' 0 4 :=
  extractLsb'_fieldsWord_low m a b i (by decide)

@[simp] theorem fPPP_fieldsWord : fPPP (fieldsWord m a b i) = Reg.ofBits (i.extractLsb' 4 3) :=
  congrArg Reg.ofBits (extractLsb'_fieldsWord_low m a b i (by decide))

@[simp] theorem fQqq_fieldsWord : fQqq (fieldsWord m a b i) = Reg.ofBits (i.extractLsb' 0 3) :=
  congrArg Reg.ofBits (extractLsb'_fieldsWord_low m a b i (by decide))

theorem fW_fieldsWord : fW (fieldsWord m a b i) = b.bits.getLsbD 0 := by
  rw [fW, fieldsWord, BitVec.getLsbD_append, BitVec.getLsbD_append]
  rfl

@[simp] theorem fW_fieldsWord_sp : fW (fieldsWord m a .sp i) = false := fW_fieldsWord m a .sp i

@[simp] theorem fW_fieldsWord_pc : fW (fieldsWord m a .pc i) = true := fW_fieldsWord m a .pc i

@[simp] theorem getLsbD_nine_fieldsWord : (fieldsWord m a b i).getLsbD 9 = b.bits.getLsbD 2 := by
  rw [fieldsWord, BitVec.getLsbD_append, BitVec.getLsbD_append]
  rfl

@[simp] theorem fImm9_fieldsWord : fImm9 (fieldsWord m a b i) = b.bits.extractLsb' 0 2 ++ i := by
  rw [fImm9, fieldsWord, BitVec.extractLsb'_append_eq_ite, dif_pos (by decide), dif_neg (by decide), BitVec.cast_eq,
    BitVec.extractLsb'_append_eq_of_add_le (by decide)]
  exact congrArg _ BitVec.extractLsb'_eq_self

@[simp] theorem fImm11_fieldsWord : fImm11 (fieldsWord m a b i) = a.bits.extractLsb' 0 1 ++ b.bits ++ i := by
  rw [fImm11, fieldsWord, BitVec.extractLsb'_append_eq_ite, dif_pos (by decide), dif_neg (by decide), BitVec.cast_eq,
    BitVec.extractLsb'_append_eq_ite, dif_pos (by decide), dif_neg (by decide), BitVec.cast_eq,
    BitVec.extractLsb'_append_eq_of_add_le (by decide)]
  exact congrArg₂ (· ++ ·) (congrArg _ BitVec.extractLsb'_eq_self) BitVec.extractLsb'_eq_self

@[simp] theorem fImm8_fieldsWord :
    fImm8 (fieldsWord m a b i) = b.bits.extractLsb' 0 2 ++ i.extractLsb' 1 6 := by
  rw [fImm8, fieldsWord, BitVec.extractLsb'_append_eq_ite, dif_pos (by decide), dif_neg (by decide), BitVec.cast_eq,
    BitVec.extractLsb'_append_eq_of_add_le (by decide)]

/-- Bits 8 to 2 of the immediate of the reserved words beside `dincm rrr, (sp + imm7)` (R98). -/
@[simp] theorem extractLsb'_one_seven_fieldsWord :
    (fieldsWord m a b i).extractLsb' 1 7 = b.bits.extractLsb' 0 1 ++ i.extractLsb' 1 6 := by
  rw [fieldsWord, BitVec.extractLsb'_append_eq_ite, dif_pos (by decide), dif_neg (by decide), BitVec.cast_eq,
    BitVec.extractLsb'_append_eq_of_add_le (by decide)]

@[simp] theorem extractLsb'_ten_fieldsWord : (fieldsWord m a b i).extractLsb' 10 1 = a.bits.extractLsb' 0 1 := by
  rw [fieldsWord, BitVec.extractLsb'_append_eq_of_le (by decide), BitVec.extractLsb'_append_eq_of_le (by decide),
    BitVec.extractLsb'_append_eq_of_add_le (by decide)]

@[simp] theorem extractLsb'_four_one_fieldsWord : (fieldsWord m a b i).extractLsb' 4 1 = i.extractLsb' 4 1 :=
  extractLsb'_fieldsWord_low m a b i (by decide)

@[simp] theorem extractLsb'_three_fieldsWord : (fieldsWord m a b i).extractLsb' 3 1 = i.extractLsb' 3 1 :=
  extractLsb'_fieldsWord_low m a b i (by decide)

@[simp] theorem extractLsb'_seven_fieldsWord : (fieldsWord m a b i).extractLsb' 7 1 = b.bits.extractLsb' 0 1 := by
  rw [fieldsWord, BitVec.extractLsb'_append_eq_of_le (by decide), BitVec.extractLsb'_append_eq_of_add_le (by decide)]

end FieldsWord

section LowFields
variable (p : Reg) (l : Bool) (x : BitVec 3)

@[simp] theorem extractLsb'_four_lowFields : (lowFields p l x).extractLsb' 4 3 = p.bits := by
  rw [lowFields, BitVec.extractLsb'_append_eq_of_le (by decide), BitVec.extractLsb'_append_eq_of_le (by decide)]
  exact BitVec.extractLsb'_eq_self

@[simp] theorem getElem_three_lowFields : (lowFields p l x)[3] = l := by
  rw [← BitVec.getLsbD_eq_getElem, lowFields, BitVec.getLsbD_append, BitVec.getLsbD_append]
  cases l <;> rfl

@[simp] theorem extractLsb'_zero_lowFields : (lowFields p l x).extractLsb' 0 3 = x :=
  BitVec.extractLsb'_append_eq_right

@[simp] theorem extractLsb'_four_one_lowFields : (lowFields p l x).extractLsb' 4 1 = p.bits.extractLsb' 0 1 := by
  rw [lowFields, BitVec.extractLsb'_append_eq_of_le (by decide), BitVec.extractLsb'_append_eq_of_le (by decide)]

@[simp] theorem extractLsb'_three_lowFields : (lowFields p l x).extractLsb' 3 1 = BitVec.ofBool l := by
  rw [lowFields, BitVec.extractLsb'_append_eq_of_le (by decide)]
  exact BitVec.extractLsb'_append_eq_right

@[simp] theorem extractLsb'_count_lowFields : (lowFields p l x).extractLsb' 0 4 = BitVec.ofBool l ++ x := by
  rw [lowFields, BitVec.append_assoc, BitVec.cast_eq]
  exact BitVec.extractLsb'_append_eq_right

end LowFields

end Sys2Proof

/-! The decoder on the words of each row of the opcode map (R92 to R99), by their fields. Ignored bits (R88) are left
open. -/

namespace Sys2Proof

/-! ### The layouts the encoder writes, by fields -/

theorem fieldsWord_lowFields (m : BitVec 3) (a b p : Reg) (l : Bool) (x : BitVec 3) :
    fieldsWord m a b (lowFields p l x) = m ++ a.bits ++ b.bits ++ p.bits ++ BitVec.ofBool l ++ x := by
  simp only [fieldsWord, lowFields, BitVec.append_assoc, BitVec.cast_eq]

theorem fieldsWord_count (m : BitVec 3) (a b p : Reg) (k : BitVec 4) :
    fieldsWord m a b (p.bits ++ k) = m ++ a.bits ++ b.bits ++ p.bits ++ k := by
  simp only [fieldsWord, BitVec.append_assoc, BitVec.cast_eq]

theorem fieldsWord_imm6 (m : BitVec 3) (a b : Reg) (k : BitVec 6) (x : BitVec 1) :
    fieldsWord m a b (k ++ x) = m ++ a.bits ++ b.bits ++ k ++ x := by
  simp only [fieldsWord, BitVec.append_assoc, BitVec.cast_eq]

/-- Nine high bits given as one number are a major opcode and two registers. -/
theorem append_eq_fieldsWord (h : BitVec 9) (i : BitVec 7) :
    (h ++ i : Word) =
      fieldsWord (h.extractLsb' 6 3) (Reg.ofBits (h.extractLsb' 3 3)) (Reg.ofBits (h.extractLsb' 0 3)) i := by
  rw [fieldsWord, Reg.bits_ofBits, Reg.bits_ofBits,
    BitVec.extractLsb'_append_extractLsb'_eq_extractLsb' (rfl : 6 = 3 + 3),
    BitVec.extractLsb'_append_extractLsb'_eq_extractLsb' (rfl : 3 = 0 + 3), BitVec.extractLsb'_eq_self]

@[simp] theorem extractLsb'_imm6_append (k : BitVec 6) (x : BitVec 1) : (k ++ x).extractLsb' 1 6 = k :=
  BitVec.extractLsb'_append_eq_left

@[simp] theorem getElem_zero_append_one (k : BitVec 6) : (k ++ 1#1)[0] = true := by
  rw [← BitVec.getLsbD_eq_getElem, BitVec.getLsbD_append]
  rfl

@[simp] theorem extractLsb'_register_count (p : Reg) (k : BitVec 4) : (p.bits ++ k).extractLsb' 4 3 = p.bits :=
  BitVec.extractLsb'_append_eq_left

@[simp] theorem extractLsb'_count (p : Reg) (k : BitVec 4) : (p.bits ++ k).extractLsb' 0 4 = k :=
  BitVec.extractLsb'_append_eq_right

/-- A row given by its fields, as the bits of its word. -/
theorem decodeWord_lowFields {m : BitVec 3} {a b p : Reg} {l : Bool} {x : BitVec 3} {j : Instr}
    (row : decodeWord (fieldsWord m a b (lowFields p l x)) = j) :
    decodeWord (m ++ a.bits ++ b.bits ++ p.bits ++ BitVec.ofBool l ++ x) = j := by
  rwa [fieldsWord_lowFields] at row

/-! ### Major opcodes 000 to 011 (R92 to R95) -/

theorem decodeWord_lbImm (d : Gpr) (b : Reg) (i : BitVec 7) :
    decodeWord (fieldsWord 0b000#3 (.gpr d) b i) = .lbImm d b i := by
  simp [decodeWord, decode0]

theorem decodeWord_lwImm (d b : Reg) (i : BitVec 7) (ok : wordImmOk d b i = true) :
    decodeWord (fieldsWord 0b001#3 d b i) = .lwImm d b i := by
  rcases d with d | _ | _ <;> rcases b with b | _ | _ <;> simp_all [decodeWord, decode1, wordImmOk, evenImm]

theorem decodeWord_reservedIncm (r : Gpr) {i : BitVec 7} (odd : i.getLsbD 0 = true) (inc : i ≠ 1) (dec : i ≠ 127) :
    decodeWord (fieldsWord 0b001#3 (.gpr r) .sp i) = .reservedIncm r i := by
  simp_all [decodeWord, decode1]

theorem decodeWord_adcz (r : Gpr) (y : BitVec 6) :
    decodeWord (fieldsWord 0b001#3 (.gpr r) .pc (y ++ 1#1)) = .adcz r := by
  simp [decodeWord, decode1]

theorem decodeWord_sbImm (r : Gpr) {b : Reg} (i : BitVec 7) (ne : b ≠ .gpr r) :
    decodeWord (fieldsWord 0b010#3 (.gpr r) b i) = .sbImm r b i := by
  simp [decodeWord, decode2, ne]

theorem decodeWord_cmpImm (r : Gpr) (i : BitVec 7) : decodeWord (fieldsWord 0b010#3 .pc (.gpr r) i) = .cmpImm r i := by
  simp [decodeWord, decode2]

theorem decodeWord_swImm (r b : Reg) (i : BitVec 7) (not_pc : r ≠ .pc) (ne : b ≠ r) (ok : wordImmOk r b i = true) :
    decodeWord (fieldsWord 0b011#3 r b i) = .swImm r b i := by
  rcases r with r | _ | _ <;> rcases b with b | _ | _ <;> simp_all [decodeWord, decode3, wordImmOk, evenImm]

theorem decodeWord_dincmInd (r : Gpr) (y : BitVec 6) :
    decodeWord (fieldsWord 0b011#3 (.gpr r) .sp (y ++ 1#1)) = .dincmInd r := by
  simp [decodeWord, decode3]

theorem decodeWord_ddecmInd (r : Gpr) (y : BitVec 6) :
    decodeWord (fieldsWord 0b011#3 (.gpr r) .pc (y ++ 1#1)) = .ddecmInd r := by
  simp [decodeWord, decode3]

theorem decodeWord_reservedSwSp (i : BitVec 7) : decodeWord (fieldsWord 0b011#3 .sp .sp i) = .reservedSwSp i := by
  simp [decodeWord, decode3]

/-! ### Major opcodes 100 to 110 (R96 to R98) -/

theorem decodeWord_addImm (d : Gpr) (b : Reg) (i : BitVec 7) :
    decodeWord (fieldsWord 0b100#3 (.gpr d) b i) = .addImm d b i := by
  simp [decodeWord, decode4]

theorem decodeWord_addSp {b : Reg} {i : BitVec 7} (not_pc : b ≠ .pc) (ok : b = .sp → i.getLsbD 0 = false) :
    decodeWord (fieldsWord 0b100#3 .sp b i) = .addSp b i := by
  rcases b with b | _ | _ <;> simp_all [decodeWord, decode4]

theorem decodeWord_swi (k : BitVec 6) : decodeWord (fieldsWord 0b100#3 .sp .sp (k ++ 1#1)) = .swi k := by
  simp [decodeWord, decode4]

theorem decodeWord_pushImm (i : BitVec 7) : decodeWord (fieldsWord 0b100#3 .sp .pc i) = .pushImm i := by
  simp [decodeWord, decode4]

theorem decodeWord_addPc (b : Gpr) {i : BitVec 7} (even : i.getLsbD 0 = false) :
    decodeWord (fieldsWord 0b100#3 .pc (.gpr b) i) = .addPc b i := by
  simp_all [decodeWord, decode4]

theorem decodeWord_addPcLink (b : Gpr) {i : BitVec 7} (odd : i.getLsbD 0 = true) :
    decodeWord (fieldsWord 0b100#3 .pc (.gpr b) i) = .addPcLink b i := by
  simp_all [decodeWord, decode4]

theorem decodeWord_li (d : Gpr) (n : BitVec 9) : decodeWord (0b101#3 ++ d.bits ++ 0b0#1 ++ n) = .li d n := by
  rw [decodeWord, fMajor_major_imm9]
  change decode5 _ = _
  rw [decode5, fRrr_major_imm9, Reg.ofBits_gprBits, getLsbD_nine_major_imm9, fImm9_major_imm9]
  rfl

theorem decodeWord_reservedLiSp (x : BitVec 8) : decodeWord (0b1011100#7 ++ x ++ 0b0#1) = .reservedLiSp x := by
  rw [decodeWord, fMajor_opcode_imm8]
  change decode5 _ = _
  rw [decode5, fRrr_opcode_imm8, getLsbD_nine_opcode_imm8, fOdd_opcode_imm8, fImm8_opcode_imm8]
  rfl

section SpRelative
variable (r : Gpr) {i : BitVec 7} (even : i.getLsbD 0 = false)
include even

theorem decodeWord_incmSp : decodeWord (fieldsWord 0b110#3 (.gpr r) (.gpr .r0) i) = .incmSp r i := by
  simp_all [decodeWord, decode6, Reg.bits, Reg.num, Gpr.num]

theorem decodeWord_decmSp : decodeWord (fieldsWord 0b110#3 (.gpr r) (.gpr .r1) i) = .decmSp r i := by
  simp_all [decodeWord, decode6, Reg.bits, Reg.num, Gpr.num]

theorem decodeWord_dincmSp : decodeWord (fieldsWord 0b110#3 (.gpr r) (.gpr .r2) i) = .dincmSp r i := by
  simp_all [decodeWord, decode6, Reg.bits, Reg.num, Gpr.num]

theorem decodeWord_ddecmSp : decodeWord (fieldsWord 0b110#3 (.gpr r) (.gpr .r3) i) = .ddecmSp r i := by
  simp_all [decodeWord, decode6, Reg.bits, Reg.num, Gpr.num]

end SpRelative

theorem decodeWord_ls5r {r : Gpr} (ne : r ≠ .r5) (y : BitVec 6) :
    decodeWord (fieldsWord 0b110#3 (.gpr r) (.gpr .r0) (y ++ 1#1)) = .ls5r r := by
  simp [decodeWord, decode6, ne, Reg.bits, Reg.num, Gpr.num]

theorem decodeWord_last (k : BitVec 6) :
    decodeWord (fieldsWord 0b110#3 (.gpr .r5) (.gpr .r0) (k ++ 1#1)) = .last k := by
  simp [decodeWord, decode6, Reg.bits, Reg.num, Gpr.num]

theorem decodeWord_ss5r {r : Gpr} (ne : r ≠ .r5) (y : BitVec 6) :
    decodeWord (fieldsWord 0b110#3 (.gpr r) (.gpr .r1) (y ++ 1#1)) = .ss5r r := by
  simp [decodeWord, decode6, ne, Reg.bits, Reg.num, Gpr.num]

theorem decodeWord_reservedSs5r (x : BitVec 6) :
    decodeWord (fieldsWord 0b110#3 (.gpr .r5) (.gpr .r1) (x ++ 1#1)) = .reservedSs5r x := by
  simp [decodeWord, decode6, Reg.bits, Reg.num, Gpr.num]

theorem decodeWord_reservedDincmSp_zero (r : Gpr) (y : BitVec 6) :
    decodeWord (fieldsWord 0b110#3 (.gpr r) (.gpr .r2) (y ++ 1#1)) = .reservedDincmSp r (0#1 ++ y) := by
  simp [decodeWord, decode6, Reg.bits, Reg.num, Gpr.num]

theorem decodeWord_reservedDincmSp_one (r : Gpr) (y : BitVec 6) :
    decodeWord (fieldsWord 0b110#3 (.gpr r) (.gpr .r3) (y ++ 1#1)) = .reservedDincmSp r (1#1 ++ y) := by
  simp [decodeWord, decode6, Reg.bits, Reg.num, Gpr.num]

/-- The seven bits a reserved word beside `dincm rrr, (sp + imm7)` leaves open lie in bits 7 and 6:1 (R98). -/
theorem encode_reservedDincmSp (r : Gpr) (z : BitVec 1) (y : BitVec 6) :
    encode (.reservedDincmSp r (z ++ y)) = 0b110#3 ++ r.bits ++ (0b01#2 ++ z) ++ (y ++ 1#1) := by
  simp only [encode, BitVec.append_assoc, BitVec.cast_eq]

theorem encode_reservedDincmSp_zero (r : Gpr) (y : BitVec 6) :
    encode (.reservedDincmSp r (0#1 ++ y)) = fieldsWord 0b110#3 (.gpr r) (.gpr .r2) (y ++ 1#1) :=
  encode_reservedDincmSp r 0#1 y

theorem encode_reservedDincmSp_one (r : Gpr) (y : BitVec 6) :
    encode (.reservedDincmSp r (1#1 ++ y)) = fieldsWord 0b110#3 (.gpr r) (.gpr .r3) (y ++ 1#1) :=
  encode_reservedDincmSp r 1#1 y

theorem encode_swi (k : BitVec 6) : encode (.swi k) = fieldsWord 0b100#3 .sp .sp (k ++ 1#1) := by
  rw [fieldsWord_imm6]
  rfl

theorem encode_last (k : BitVec 6) : encode (.last k) = fieldsWord 0b110#3 (.gpr .r5) (.gpr .r0) (k ++ 1#1) := by
  rw [fieldsWord_imm6]
  rfl

theorem encode_reservedSs5r (x : BitVec 6) :
    encode (.reservedSs5r x) = fieldsWord 0b110#3 (.gpr .r5) (.gpr .r1) (x ++ 1#1) := by
  rw [fieldsWord_imm6]
  rfl

/-! ### The slots of addm, subm and push (R87, R89, R91) -/

/-- The decoder reads the slots of `addm` in the order of their numbers; two of them hold `push` at odd immediates. -/
theorem decodeWord_addmHigh {n : Nat} (slot : n < 30) (i : BitVec 7) (even : n = 5 ∨ n = 11 → i.getLsbD 0 = false) :
    decodeWord (addmHigh n ++ i) = addmOfSlot n i := by
  rw [append_eq_fieldsWord]
  interval_cases n <;> simp_all [decodeWord, decode0, decode2, decode3, decode4, decode5, decode7, addmHigh, addmOfSlot,
    slotSrc, Reg.ofBits, Reg.ofNum, Reg.bits, Reg.num, Gpr.num, Gpr.ofNum]

/-- The slot of a well-formed pair of registers stands for that pair. -/
theorem addmOfSlot_slotOf {d : Gpr} {b : Reg} (ok : memAluOperands d b = true) (i : BitVec 7) :
    addmOfSlot (d.num * 6 + slotOf d b) i = .addm d b i := by
  have numbered : Gpr.ofNum ((d.num * 6 + slotOf d b) / 6) = d ∧
      slotSrc ((d.num * 6 + slotOf d b) / 6) ((d.num * 6 + slotOf d b) % 6) = b := by
    rcases b with g | _ | _
    · cases d <;> cases g <;> revert ok <;> decide
    · cases d <;> revert ok <;> decide
    · cases d <;> revert ok <;> decide
  obtain ⟨dst, src⟩ := numbered
  rw [addmOfSlot, dst, src]

/-- There are 30 slots; the two that share their words with `push` are those of r0 and r1 with sp. -/
theorem addm_slot_lt {d : Gpr} {b : Reg} (ok : memAluOperands d b = true) :
    d.num * 6 + slotOf d b < 30 ∧
      (d.num * 6 + slotOf d b = 5 ∨ d.num * 6 + slotOf d b = 11 → b = .sp ∧ (d = .r0 ∨ d = .r1)) := by
  rcases b with g | _ | _
  · cases d <;> cases g <;> revert ok <;> decide
  · cases d <;> revert ok <;> decide
  · cases d <;> revert ok <;> decide

/-- The decoder reads a slot of `subm` as the source its position stands for; the last position of the destinations r0
to r3 holds `push` at odd immediates. -/
theorem decodeWord_submHigh {d n : Gpr} (i : BitVec 7) (not_r5 : d ≠ .r5)
    (even : n = .r5 → d ≠ .r4 → i.getLsbD 0 = false) :
    decodeWord (submHigh d n.bits ++ i) = .subm d (slotSrc d.num n.num) i := by
  rw [append_eq_fieldsWord]
  cases d <;> cases n <;> simp_all [decodeWord, decode2, decode3, decode5, decode7, decodeUnary, submHigh,
    slotSrc, Reg.ofBits, Reg.ofNum, Reg.bits, Gpr.bits, Reg.num, Gpr.num]

/-- The position of a well-formed pair of registers stands for its source. -/
theorem exists_subm_position {d : Gpr} {b : Reg} (ok : memAluOperands d b = true) :
    ∃ n : Gpr, BitVec.ofNat 3 (slotOf d b) = n.bits ∧ slotSrc d.num n.num = b ∧ (n = .r5 → b = .sp) := by
  refine ⟨Gpr.ofNum (slotOf d b), ?_⟩
  rcases b with g | _ | _
  · cases d <;> cases g <;> revert ok <;> decide
  · cases d <;> revert ok <;> decide
  · cases d <;> revert ok <;> decide

/-- Bits 15:7 of the word of `push r` (R141). -/
def pushHigh (r : Gpr) : BitVec 9 := (pushWord r).extractLsb' 7 9

theorem decodeWord_pushReg (r : Gpr) (y : BitVec 6) : decodeWord (pushHigh r ++ (y ++ 1#1)) = .pushReg r := by
  rw [append_eq_fieldsWord]
  cases r <;> simp [decodeWord, decode2, decode3, decode5, pushHigh, pushWord, Reg.ofBits, Reg.ofNum]

/-! ### Major opcode 111 (R99) -/

theorem decodeWord_jump_low (a : Reg) (i : BitVec 7) :
    decodeWord (fieldsWord 0b111#3 a (.gpr .r0) i) = decodeJump a.num i := by
  simp [decodeWord, decode7, Reg.bits, Reg.num, Gpr.num]

theorem decodeWord_jump_high (c : Gpr) (i : BitVec 7) :
    decodeWord (fieldsWord 0b111#3 (.gpr c) (.gpr .r1) i) = decodeJump (8 + c.num) i := by
  simp [decodeWord, decode7, Reg.bits, Reg.num, Gpr.num]

theorem decodeWord_unary (a : Reg) (i : BitVec 7) :
    decodeWord (fieldsWord 0b111#3 a (.gpr .r4) i) = decodeUnary (fieldsWord 0b111#3 a (.gpr .r4) i) := by
  simp [decodeWord, decode7, Reg.bits, Reg.num, Gpr.num]

theorem decodeWord_shiftImm (a : Reg) (i : BitVec 7) :
    decodeWord (fieldsWord 0b111#3 a (.gpr .r5) i) = decodeShiftImm (fieldsWord 0b111#3 a (.gpr .r5) i) :=
  decodeWord_eq_decodeShiftImm (fMajor_fieldsWord _ _ _ _) (fSub_fieldsWord _ _ _ _)

theorem decodeWord_regReg (a : Reg) {b : Reg} (sub : b = .sp ∨ b = .pc) (i : BitVec 7) :
    decodeWord (fieldsWord 0b111#3 a b i) = decodeRegReg (fieldsWord 0b111#3 a b i) := by
  obtain rfl | rfl := sub <;> simp [decodeWord, decode7, Reg.bits, Reg.num]

end Sys2Proof

/-! The rows of major opcode 111 with bits 9:7 from 100 up (R99), as the bits of their words. -/

namespace Sys2Proof

/-! ### Bits 9:7 = 100 -/

section Unary
variable (r : Gpr) (x : BitVec 3)

theorem decodeWord_zxt : decodeWord (0b111110100#9 ++ r.bits ++ 0b0#1 ++ x) = .zxt r :=
  decodeWord_lowFields (m := 0b111#3) (a := .sp) (b := .gpr .r4) (p := .gpr r) (l := false)
    (by simp [decodeWord_unary, decodeUnary])

theorem decodeWord_sxt : decodeWord (0b111110100#9 ++ r.bits ++ 0b1#1 ++ x) = .sxt r :=
  decodeWord_lowFields (m := 0b111#3) (a := .sp) (b := .gpr .r4) (p := .gpr r) (l := true)
    (by simp [decodeWord_unary, decodeUnary])

theorem decodeWord_cpl : decodeWord (0b111111100#9 ++ r.bits ++ 0b0#1 ++ x) = .cpl r :=
  decodeWord_lowFields (m := 0b111#3) (a := .pc) (b := .gpr .r4) (p := .gpr r) (l := false)
    (by simp [decodeWord_unary, decodeUnary])

theorem decodeWord_neg : decodeWord (0b111111100#9 ++ r.bits ++ 0b1#1 ++ x) = .neg r :=
  decodeWord_lowFields (m := 0b111#3) (a := .pc) (b := .gpr .r4) (p := .gpr r) (l := true)
    (by simp [decodeWord_unary, decodeUnary])

theorem decodeWord_pop :
    decodeWord (0b11111#5 ++ r.bits.extractLsb' 2 1 ++ 0b10011#5 ++ r.bits.extractLsb' 0 2 ++ x) = .pop r := by
  revert x
  cases r <;> decide

theorem decodeWord_mf2 : decodeWord (0b1111111001110#13 ++ x) = .mf2 := by
  revert x
  decide

theorem decodeWord_m2f : decodeWord (0b1111111001111#13 ++ x) = .m2f := by
  revert x
  decide

end Unary

/-! ### mrs and stc -/

/-- The decoder reads the number of each of the 30 pairs as that pair. -/
theorem decodeWord_mrs {d s : Gpr} (ne : d ≠ s) (x : BitVec 3) :
    decodeWord (0b11111#5 ++ BitVec.ofNat 1 (mrsNumber d s / 16) ++ 0b001#3 ++
      BitVec.ofNat 4 (mrsNumber d s % 16) ++ x) = .mrs d s := by
  revert ne x
  cases d <;> cases s <;> decide

theorem decodeWord_stc (x : BitVec 3) : decodeWord (0b1111110011110#13 ++ x) = .stc := by
  revert x
  decide

theorem decodeWord_reservedMrs (x : BitVec 3) : decodeWord (0b1111110011111#13 ++ x) = .reservedMrs x := by
  revert x
  decide

/-! ### Bits 9:7 = 101 -/

theorem decodeWord_sac (d p : Gpr) (k : BitVec 4) :
    decodeWord (0b111#3 ++ d.bits ++ 0b101#3 ++ p.bits ++ k) = .sac d p k := by
  have row : decodeWord (fieldsWord 0b111#3 (.gpr d) (.gpr .r5) ((Reg.gpr p).bits ++ k)) = .sac d p k := by
    simp [decodeWord_shiftImm, decodeShiftImm]
  rwa [fieldsWord_count] at row

section Counts
variable (r : Gpr)

theorem decodeWord_reservedSr : decodeWord (0b111110101#9 ++ r.bits ++ 0b0000#4) = .reservedSr r := by
  cases r <;> rfl

theorem decodeWord_reservedSl (k : BitVec 1) :
    decodeWord (0b111111101#9 ++ r.bits ++ 0b000#3 ++ k) = .reservedSl r k := by
  revert k
  cases r <;> decide

theorem decodeWord_reservedAsr : decodeWord (0b111#3 ++ r.bits ++ 0b1011100000#10) = .reservedAsr r := by
  cases r <;> rfl

theorem decodeWord_reservedRl : decodeWord (0b111#3 ++ r.bits ++ 0b1011110000#10) = .reservedRl r := by
  cases r <;> rfl

end Counts

section Helpers
variable (x : BitVec 3)

theorem decodeWord_di : decodeWord (0b1111101011100#13 ++ x) = .di := by
  revert x
  decide

theorem decodeWord_ei : decodeWord (0b1111101011101#13 ++ x) = .ei := by
  revert x
  decide

theorem decodeWord_reti : decodeWord (0b1111101011110#13 ++ x) = .reti := by
  revert x
  decide

theorem decodeWord_reservedHlt : decodeWord (0b1111101011111#13 ++ x) = .reservedHlt x := by
  revert x
  decide

theorem decodeWord_add22adc33 : decodeWord (0b1111111011100#13 ++ x) = .add22adc33 := by
  revert x
  decide

theorem decodeWord_cadd24 : decodeWord (0b1111111011101#13 ++ x) = .cadd24 := by
  revert x
  decide

theorem decodeWord_cadd24adc3z : decodeWord (0b1111111011110#13 ++ x) = .cadd24adc3z := by
  revert x
  decide

theorem decodeWord_csub34 : decodeWord (0b1111111011111#13 ++ x) = .csub34 := by
  revert x
  decide

end Helpers

/-! ### Bits 9:8 = 11 -/

/-- A register-register word decodes as the table of its fields says. -/
theorem decodeWord_encode_regReg {i : Instr} (a b p : Reg) (l : Bool) (q : Reg)
    (word : encode i = 0b111#3 ++ a.bits ++ b.bits ++ p.bits ++ BitVec.ofBool l ++ q.bits) (sub : b = .sp ∨ b = .pc)
    (row : decodeRegReg (fieldsWord 0b111#3 a b (lowFields p l q.bits)) = i) : decodeWord (encode i) = i := by
  rw [word, decodeWord_lowFields ((decodeWord_regReg a sub _).trans row)]

theorem decodeWord_encode_lbReg (d p : Gpr) (q : Reg) :
    decodeWord (encode (.lbReg d p q)) = .lbReg d p q :=
  decodeWord_encode_regReg (.gpr d) .sp (.gpr p) false q (rfl) (.inl rfl) (by simp [decodeRegReg])

theorem decodeWord_encode_lwReg (d : Reg) (p : Gpr) (q : Reg) :
    decodeWord (encode (.lwReg d p q)) = .lwReg d p q :=
  decodeWord_encode_regReg d .pc (.gpr p) false q rfl (.inr rfl) (by cases d <;> simp [decodeRegReg])

theorem decodeWord_encode_sbReg {r p : Gpr} (q : Reg) (ne : p ≠ r) :
    decodeWord (encode (.sbReg r p q)) = .sbReg r p q :=
  decodeWord_encode_regReg (.gpr r) .sp (.gpr p) true q (rfl) (.inl rfl) (by simp [decodeRegReg, ne])

theorem decodeWord_encode_swReg {r : Reg} {p : Gpr} (q : Reg) (not_pc : r ≠ .pc) (ne : r ≠ .gpr p) :
    decodeWord (encode (.swReg r p q)) = .swReg r p q :=
  decodeWord_encode_regReg r .pc (.gpr p) true q rfl (.inr rfl) (by
    rcases r with r | _ | _
    · have ne' : p ≠ r := fun same => ne (congrArg Reg.gpr same.symm)
      simp [decodeRegReg, ne']
    · simp [decodeRegReg]
    · exact absurd rfl not_pc)

theorem decodeWord_encode_srReg (r : Gpr) (q : Reg) :
    decodeWord (encode (.srReg r q)) = .srReg r q :=
  decodeWord_encode_regReg (.gpr r) .sp .sp false q (by cases r <;> rfl) (.inl rfl) (by simp [decodeRegReg])

theorem decodeWord_encode_slReg (r : Gpr) (q : Reg) :
    decodeWord (encode (.slReg r q)) = .slReg r q :=
  decodeWord_encode_regReg (.gpr r) .sp .sp true q (by cases r <;> rfl) (.inl rfl) (by simp [decodeRegReg])

theorem decodeWord_encode_rrReg (r : Gpr) (q : Reg) :
    decodeWord (encode (.rrReg r q)) = .rrReg r q :=
  decodeWord_encode_regReg (.gpr r) .pc .sp false q (by cases r <;> rfl) (.inr rfl) (by simp [decodeRegReg])

theorem decodeWord_encode_rlReg (r : Gpr) (q : Reg) :
    decodeWord (encode (.rlReg r q)) = .rlReg r q :=
  decodeWord_encode_regReg (.gpr r) .pc .sp true q (by cases r <;> rfl) (.inr rfl) (by simp [decodeRegReg])

theorem decodeWord_encode_asrReg (r : Gpr) (q : Reg) :
    decodeWord (encode (.asrReg r q)) = .asrReg r q :=
  decodeWord_encode_regReg (.gpr r) .sp .pc false q (by cases r <;> rfl) (.inl rfl) (by simp [decodeRegReg])

theorem decodeWord_encode_xorReg (r : Gpr) (q : Reg) :
    decodeWord (encode (.xorReg r q)) = .xorReg r q :=
  decodeWord_encode_regReg (.gpr r) .sp .pc true q (by cases r <;> rfl) (.inl rfl) (by simp [decodeRegReg])

theorem decodeWord_encode_andReg (r : Gpr) (q : Reg) :
    decodeWord (encode (.andReg r q)) = .andReg r q :=
  decodeWord_encode_regReg (.gpr r) .pc .pc false q (by cases r <;> rfl) (.inr rfl) (by simp [decodeRegReg])

theorem decodeWord_encode_orReg (r : Gpr) (q : Reg) :
    decodeWord (encode (.orReg r q)) = .orReg r q :=
  decodeWord_encode_regReg (.gpr r) .pc .pc true q (by cases r <;> rfl) (.inr rfl) (by simp [decodeRegReg])

theorem decodeWord_encode_adcReg (r : Gpr) (q : Reg) :
    decodeWord (encode (.adcReg r q)) = .adcReg r q :=
  decodeWord_encode_regReg .sp .sp (.gpr r) false q (rfl) (.inl rfl) (by simp [decodeRegReg])

theorem decodeWord_encode_sbbReg (r : Gpr) (q : Reg) :
    decodeWord (encode (.sbbReg r q)) = .sbbReg r q :=
  decodeWord_encode_regReg .sp .sp (.gpr r) true q (rfl) (.inl rfl) (by simp [decodeRegReg])

theorem decodeWord_encode_addReg (r : Gpr) (q : Reg) :
    decodeWord (encode (.addReg r q)) = .addReg r q :=
  decodeWord_encode_regReg .pc .sp (.gpr r) false q (rfl) (.inl rfl) (by simp [decodeRegReg])

theorem decodeWord_encode_subReg (r : Gpr) (q : Reg) :
    decodeWord (encode (.subReg r q)) = .subReg r q :=
  decodeWord_encode_regReg .pc .sp (.gpr r) true q (rfl) (.inl rfl) (by simp [decodeRegReg])

theorem decodeWord_encode_cmpReg (r : Gpr) (q : Reg) :
    decodeWord (encode (.cmpReg r q)) = .cmpReg r q :=
  decodeWord_encode_regReg .pc .pc (.gpr r) true q (rfl) (.inr rfl) (by simp [decodeRegReg])

theorem decodeWord_encode_mov (d : Gpr) (q : Reg) :
    decodeWord (encode (.mov d q)) = .mov d q :=
  decodeWord_encode_regReg (.gpr d) .sp (.gpr d) true q (rfl) (.inl rfl) (by simp [decodeRegReg])

theorem decodeWord_encode_msr (r : Gpr) (q : Reg) :
    decodeWord (encode (.msr r q)) = .msr r q :=
  decodeWord_encode_regReg (.gpr r) .pc (.gpr r) true q (rfl) (.inr rfl) (by simp [decodeRegReg])

/-- Where bits 12:10 and 6:4 both hold sp or pc the word is reserved, and keeps its other bits. -/
theorem decodeWord_reservedRegReg (r w p l : BitVec 1) (q : BitVec 3) :
    decodeWord (0b11111#5 ++ r ++ 0b11#2 ++ w ++ 0b11#2 ++ p ++ l ++ q) = .reservedRegReg r w p l q := by
  revert r w p l q
  decide

end Sys2Proof

/-! Words up to the bits the hardware ignores (R88): when a word is one of an instruction's words. -/

namespace Sys2Proof

/-- `w` is the word of `i` in every bit but those the hardware ignores. -/
def Agrees (w : Word) (i : Instr) : Prop := w &&& ~~~i.ignoredBits = encode i &&& ~~~i.ignoredBits

theorem agrees_encode (i : Instr) : Agrees (encode i) i := rfl

/-- Without ignored bits an instruction has one word. -/
theorem Agrees.eq_encode {w : Word} {i : Instr} (agrees : Agrees w i) (exact : i.ignoredBits = 0) : w = encode i := by
  have full : ∀ v : Word, v &&& ~~~0 = v := fun v => BitVec.and_allOnes
  rw [Agrees, exact, full, full] at agrees
  exact agrees

theorem eq_append_extractLsb' {n m : Nat} (w : BitVec (n + m)) : w = w.extractLsb' m n ++ w.extractLsb' 0 m := by
  rw [BitVec.extractLsb'_append_extractLsb'_eq_extractLsb' (Nat.zero_add m).symm]
  exact BitVec.extractLsb'_eq_self.symm

/-- Words that agree under a mask of the high bits have these bits in common. -/
theorem high_eq_of_masked {n m : Nat} {w hi : BitVec n} {x c : BitVec m} {mask : BitVec m}
    (masked : (w ++ x) &&& (BitVec.allOnes n ++ mask) = (hi ++ c) &&& (BitVec.allOnes n ++ mask)) :
    w = hi ∧ x &&& mask = c &&& mask := by
  rw [BitVec.and_append, BitVec.and_append, BitVec.and_allOnes, BitVec.and_allOnes] at masked
  have high := congrArg (BitVec.extractLsb' m n) masked
  have low := congrArg (BitVec.extractLsb' 0 m) masked
  rw [BitVec.extractLsb'_append_eq_left, BitVec.extractLsb'_append_eq_left] at high
  rw [BitVec.extractLsb'_append_eq_right, BitVec.extractLsb'_append_eq_right] at low
  exact ⟨high, low⟩

/-- With III ignored, the words of an instruction are those with its thirteen high bits. -/
theorem agrees_iff_of_III {w : Word} {i : Instr} {hi : BitVec 13} {c : BitVec 3} (ignored : i.ignoredBits = 0x0007)
    (word : encode i = hi ++ c) : Agrees w i ↔ ∃ x : BitVec 3, w = hi ++ x := by
  have mask : (~~~0x0007 : Word) = BitVec.allOnes 13 ++ 0#3 := rfl
  rw [Agrees, ignored, word, mask]
  constructor
  · intro agrees
    have split := eq_append_extractLsb' (n := 13) (m := 3) w
    rw [split] at agrees
    obtain ⟨high, -⟩ := high_eq_of_masked agrees
    exact ⟨_, high ▸ split⟩
  · rintro ⟨x, rfl⟩
    have kept : ∀ y : BitVec 3, (hi ++ y) &&& (BitVec.allOnes 13 ++ 0#3) = hi ++ 0#3 := fun y => by
      rw [BitVec.and_append, BitVec.and_allOnes, BitVec.and_zero]
    exact (kept x).trans (kept c).symm

theorem bit_cases (x : BitVec 1) : x = 0#1 ∨ x = 1#1 := by
  revert x
  decide

theorem eq_append_zero {i : BitVec 7} (even : i.getLsbD 0 = false) : i = i.extractLsb' 1 6 ++ 0#1 := by
  revert i
  decide

theorem eq_append_one {i : BitVec 7} (odd : i.getLsbD 0 = true) : i = i.extractLsb' 1 6 ++ 1#1 := by
  revert i
  decide

theorem odd_of_masked {i : BitVec 7} (masked : i &&& 1#7 = 1#7) : i.getLsbD 0 = true := by
  revert i
  decide

/-- With the optional imm6 ignored, the words of an instruction are those with its nine high bits and bit 0. -/
theorem agrees_iff_of_imm6 {w : Word} {i : Instr} {hi : BitVec 9} {c : BitVec 6} (ignored : i.ignoredBits = 0x007E)
    (word : encode i = hi ++ (c ++ 1#1)) : Agrees w i ↔ ∃ y : BitVec 6, w = hi ++ (y ++ 1#1) := by
  have mask : (~~~0x007E : Word) = BitVec.allOnes 9 ++ 1#7 := rfl
  have kept : ∀ y : BitVec 6, (y ++ 1#1) &&& 1#7 = 1#7 := by decide
  rw [Agrees, ignored, word, mask]
  constructor
  · intro agrees
    have split := eq_append_extractLsb' (n := 9) (m := 7) w
    rw [split] at agrees
    obtain ⟨high, low⟩ := high_eq_of_masked agrees
    rw [high, eq_append_one (odd_of_masked (low.trans (kept c)))] at split
    exact ⟨_, split⟩
  · rintro ⟨y, rfl⟩
    have masked : ∀ y : BitVec 6, (hi ++ (y ++ 1#1)) &&& (BitVec.allOnes 9 ++ 1#7) = hi ++ 1#7 := fun y => by
      rw [BitVec.and_append, BitVec.and_allOnes, kept]
    exact (masked y).trans (masked c).symm

end Sys2Proof

/-! Decoding after encoding (O1): the words of a well-formed instruction, whatever their ignored bits, decode to it. -/

namespace Sys2Proof

/-- An instruction without ignored bits has the one word the encoder gives. -/
theorem Agrees.decode_exact {w : Word} {i : Instr} (agrees : Agrees w i) (exact : i.ignoredBits = 0)
    (row : decodeWord (encode i) = i) : decodeWord w = i := by
  rw [agrees.eq_encode exact, row]

theorem Agrees.decode_III {w : Word} {i : Instr} (hi : BitVec 13) (agrees : Agrees w i)
    (ignored : i.ignoredBits = 0x0007) (word : encode i = hi ++ 0b111#3)
    (row : ∀ x : BitVec 3, decodeWord (hi ++ x) = i) : decodeWord w = i := by
  obtain ⟨x, rfl⟩ := (agrees_iff_of_III ignored word).mp agrees
  exact row x

theorem Agrees.decode_imm6 {w : Word} {i : Instr} (hi : BitVec 9) (agrees : Agrees w i)
    (ignored : i.ignoredBits = 0x007E) (word : encode i = hi ++ (0#6 ++ 1#1))
    (row : ∀ y : BitVec 6, decodeWord (hi ++ (y ++ 1#1)) = i) : decodeWord w = i := by
  obtain ⟨y, rfl⟩ := (agrees_iff_of_imm6 ignored word).mp agrees
  exact row y

/-- Evenness of an immediate is a statement about its bit 0. -/
theorem evenImm_iff (i : BitVec 7) : evenImm i = true ↔ i.getLsbD 0 = false := by
  rw [evenImm, Bool.not_eq_true']

theorem decodeWord_encode_addm {d : Gpr} {b : Reg} {i : BitVec 7} (wf : (Instr.addm d b i).WellFormed) :
    decodeWord (encode (.addm d b i)) = .addm d b i := by
  simp only [Instr.WellFormed, Instr.wellFormed, Bool.and_eq_true] at wf
  obtain ⟨ok, even⟩ := wf
  obtain ⟨slot, shared⟩ := addm_slot_lt ok
  have row := decodeWord_addmHigh slot i fun push => by
    obtain ⟨rfl, rfl | rfl⟩ := shared push <;> simpa [evenImm] using even
  rw [encode, row, addmOfSlot_slotOf ok]

theorem decodeWord_encode_subm {d : Gpr} {b : Reg} {i : BitVec 7} (wf : (Instr.subm d b i).WellFormed) :
    decodeWord (encode (.subm d b i)) = .subm d b i := by
  simp only [Instr.WellFormed, Instr.wellFormed, Bool.and_eq_true] at wf
  obtain ⟨ok, even⟩ := wf
  have not_r5 : d ≠ .r5 := by
    rintro rfl
    exact absurd ok (by simp [memAluOperands])
  obtain ⟨n, position, source, last⟩ := exists_subm_position ok
  have row := decodeWord_submHigh (n := n) i not_r5 fun n_last not_r4 => by
    rw [← evenImm_iff]
    simpa [last n_last, not_r4] using even
  rw [encode, position, row, source]

/-- A word of a well-formed instruction decodes to that instruction: one row of the opcode map per constructor. -/
theorem decodeWord_of_agrees {w : Word} {i : Instr} (wf : i.WellFormed) (agrees : Agrees w i) : decodeWord w = i := by
  cases i with
  | lbImm d b i => exact agrees.decode_exact rfl (decodeWord_lbImm d b i)
  | andImm r i => exact agrees.decode_exact rfl (decodeWord_andImm r i)
  | orImm r i => exact agrees.decode_exact rfl (decodeWord_orImm r i)
  | addm d b i => exact agrees.decode_exact rfl (decodeWord_encode_addm wf)
  | lwImm d b i => exact agrees.decode_exact rfl (decodeWord_lwImm d b i wf)
  | incmInd r => exact agrees.decode_exact rfl (by cases r <;> rfl)
  | decmInd r => exact agrees.decode_exact rfl (by cases r <;> rfl)
  | reservedIncm r i =>
    simp only [Instr.WellFormed, Instr.wellFormed, Bool.and_eq_true, bne_iff_ne] at wf
    obtain ⟨⟨odd, inc⟩, dec⟩ := wf
    exact agrees.decode_exact rfl (decodeWord_reservedIncm r (by simpa [evenImm] using odd) inc dec)
  | adcz r => exact agrees.decode_imm6 (0b001#3 ++ r.bits ++ 0b111#3) rfl (by cases r <;> rfl) (decodeWord_adcz r)
  | sbImm r b i => exact agrees.decode_exact rfl (decodeWord_sbImm r i (bne_iff_ne.mp wf))
  | xorImm r i => exact agrees.decode_exact rfl (decodeWord_xorImm r i)
  | cmpImm r i => exact agrees.decode_exact rfl (decodeWord_cmpImm r i)
  | pushReg r => exact agrees.decode_imm6 (pushHigh r) (by cases r <;> rfl) (by cases r <;> rfl) (decodeWord_pushReg r)
  | subm d b i => exact agrees.decode_exact rfl (decodeWord_encode_subm wf)
  | swImm r b i =>
    simp only [Instr.WellFormed, Instr.wellFormed, Bool.and_eq_true, bne_iff_ne] at wf
    obtain ⟨⟨not_pc, ne⟩, ok⟩ := wf
    exact agrees.decode_exact rfl (decodeWord_swImm r b i not_pc ne ok)
  | dincmInd r =>
    exact agrees.decode_imm6 (0b011#3 ++ r.bits ++ 0b110#3) rfl (by cases r <;> rfl)
      (decodeWord_dincmInd r)
  | ddecmInd r =>
    exact agrees.decode_imm6 (0b011#3 ++ r.bits ++ 0b111#3) rfl (by cases r <;> rfl)
      (decodeWord_ddecmInd r)
  | reservedSwSp i => exact agrees.decode_exact rfl (decodeWord_reservedSwSp i)
  | addImm d b i => exact agrees.decode_exact rfl (decodeWord_addImm d b i)
  | addSp b i =>
    simp only [Instr.WellFormed, Instr.wellFormed, Bool.and_eq_true, Bool.or_eq_true, bne_iff_ne, evenImm_iff] at wf
    obtain ⟨not_pc, even⟩ := wf
    exact agrees.decode_exact rfl (decodeWord_addSp not_pc even.neg_resolve_left)
  | swi k => exact agrees.decode_exact rfl (encode_swi k ▸ decodeWord_swi k)
  | pushImm i => exact agrees.decode_exact rfl (decodeWord_pushImm i)
  | addPc b i => exact agrees.decode_exact rfl (decodeWord_addPc b ((evenImm_iff i).mp wf))
  | addPcLink b i =>
    have odd : i.getLsbD 0 = true := by simpa [Instr.WellFormed, Instr.wellFormed, evenImm] using wf
    exact agrees.decode_exact rfl (decodeWord_addPcLink b odd)
  | li d n => exact agrees.decode_exact rfl (decodeWord_li d n)
  | addu d n => exact agrees.decode_exact rfl (decodeWord_addu d n (bne_iff_ne.mp wf))
  | j k => exact agrees.decode_exact rfl (decodeWord_j k)
  | reservedLiSp x => exact agrees.decode_exact rfl (decodeWord_reservedLiSp x)
  | incmSp r i => exact agrees.decode_exact rfl (decodeWord_incmSp r ((evenImm_iff i).mp wf))
  | decmSp r i => exact agrees.decode_exact rfl (decodeWord_decmSp r ((evenImm_iff i).mp wf))
  | dincmSp r i => exact agrees.decode_exact rfl (decodeWord_dincmSp r ((evenImm_iff i).mp wf))
  | ddecmSp r i => exact agrees.decode_exact rfl (decodeWord_ddecmSp r ((evenImm_iff i).mp wf))
  | ls5r r =>
    exact agrees.decode_imm6 (0b110#3 ++ r.bits ++ 0b000#3) rfl (by cases r <;> rfl)
      (decodeWord_ls5r (bne_iff_ne.mp wf))
  | last k => exact agrees.decode_exact rfl (encode_last k ▸ decodeWord_last k)
  | ss5r r =>
    exact agrees.decode_imm6 (0b110#3 ++ r.bits ++ 0b001#3) rfl (by cases r <;> rfl)
      (decodeWord_ss5r (bne_iff_ne.mp wf))
  | reservedSs5r x => exact agrees.decode_exact rfl (encode_reservedSs5r x ▸ decodeWord_reservedSs5r x)
  | reservedDincmSp r x =>
    have split := eq_append_extractLsb' (n := 1) (m := 6) x
    obtain zero | one := bit_cases (x.extractLsb' 6 1)
    · rw [zero] at split
      rw [split] at agrees ⊢
      exact agrees.decode_exact rfl (encode_reservedDincmSp_zero r _ ▸ decodeWord_reservedDincmSp_zero r _)
    · rw [one] at split
      rw [split] at agrees ⊢
      exact agrees.decode_exact rfl (encode_reservedDincmSp_one r _ ▸ decodeWord_reservedDincmSp_one r _)
  | lurpc d n => exact agrees.decode_exact rfl (decodeWord_lurpc d n)
  | jal k => exact agrees.decode_exact rfl (decodeWord_jal k)
  | jc i => exact agrees.decode_exact rfl (decodeWord_jump_low (.gpr .r0) i)
  | jz i => exact agrees.decode_exact rfl (decodeWord_jump_low (.gpr .r1) i)
  | js i => exact agrees.decode_exact rfl (decodeWord_jump_low (.gpr .r2) i)
  | jleu i => exact agrees.decode_exact rfl (decodeWord_jump_low (.gpr .r3) i)
  | jl i => exact agrees.decode_exact rfl (decodeWord_jump_low (.gpr .r4) i)
  | jle i => exact agrees.decode_exact rfl (decodeWord_jump_low (.gpr .r5) i)
  | jo i => exact agrees.decode_exact rfl (decodeWord_jump_low .sp i)
  | jno i => exact agrees.decode_exact rfl (decodeWord_jump_low .pc i)
  | jnc i => exact agrees.decode_exact rfl (decodeWord_jump_high .r0 i)
  | jnz i => exact agrees.decode_exact rfl (decodeWord_jump_high .r1 i)
  | jns i => exact agrees.decode_exact rfl (decodeWord_jump_high .r2 i)
  | jgu i => exact agrees.decode_exact rfl (decodeWord_jump_high .r3 i)
  | jge i => exact agrees.decode_exact rfl (decodeWord_jump_high .r4 i)
  | jg i => exact agrees.decode_exact rfl (decodeWord_jump_high .r5 i)
  | mrs d s => exact agrees.decode_III _ rfl rfl (decodeWord_mrs (bne_iff_ne.mp wf))
  | stc => exact agrees.decode_III (0b1111110011110#13) rfl (rfl) (decodeWord_stc)
  | reservedMrs x => exact agrees.decode_exact rfl (decodeWord_reservedMrs x)
  | zxt r => exact agrees.decode_III (0b111110100#9 ++ r.bits ++ 0b0#1) rfl (by cases r <;> rfl) (decodeWord_zxt r)
  | sxt r => exact agrees.decode_III (0b111110100#9 ++ r.bits ++ 0b1#1) rfl (by cases r <;> rfl) (decodeWord_sxt r)
  | cpl r => exact agrees.decode_III (0b111111100#9 ++ r.bits ++ 0b0#1) rfl (by cases r <;> rfl) (decodeWord_cpl r)
  | neg r => exact agrees.decode_III (0b111111100#9 ++ r.bits ++ 0b1#1) rfl (by cases r <;> rfl) (decodeWord_neg r)
  | pop r => exact agrees.decode_III _ rfl rfl (decodeWord_pop r)
  | mf2 => exact agrees.decode_III (0b1111111001110#13) rfl (rfl) (decodeWord_mf2)
  | m2f => exact agrees.decode_III (0b1111111001111#13) rfl (rfl) (decodeWord_m2f)
  | sac d p k => exact agrees.decode_exact rfl (decodeWord_sac d p k)
  | srImm r k => exact agrees.decode_exact rfl (decodeWord_srImm r (bne_iff_ne.mp wf))
  | slImm r k =>
    simp only [Instr.WellFormed, Instr.wellFormed, Bool.and_eq_true, bne_iff_ne] at wf
    exact agrees.decode_exact rfl (decodeWord_slImm r wf.1 wf.2)
  | asrImm r k => exact agrees.decode_exact rfl (decodeWord_asrImm r (bne_iff_ne.mp wf))
  | rlImm r k => exact agrees.decode_exact rfl (decodeWord_rlImm r (bne_iff_ne.mp wf))
  | reservedSr r => exact agrees.decode_exact rfl (decodeWord_reservedSr r)
  | reservedSl r k => exact agrees.decode_exact rfl (decodeWord_reservedSl r k)
  | reservedAsr r => exact agrees.decode_exact rfl (decodeWord_reservedAsr r)
  | reservedRl r => exact agrees.decode_exact rfl (decodeWord_reservedRl r)
  | di => exact agrees.decode_III (0b1111101011100#13) rfl (rfl) (decodeWord_di)
  | ei => exact agrees.decode_III (0b1111101011101#13) rfl (rfl) (decodeWord_ei)
  | reti => exact agrees.decode_III (0b1111101011110#13) rfl (rfl) (decodeWord_reti)
  | reservedHlt x => exact agrees.decode_exact rfl (decodeWord_reservedHlt x)
  | add22adc33 => exact agrees.decode_III (0b1111111011100#13) rfl (rfl) (decodeWord_add22adc33)
  | cadd24 => exact agrees.decode_III (0b1111111011101#13) rfl (rfl) (decodeWord_cadd24)
  | cadd24adc3z => exact agrees.decode_III (0b1111111011110#13) rfl (rfl) (decodeWord_cadd24adc3z)
  | csub34 => exact agrees.decode_III (0b1111111011111#13) rfl (rfl) (decodeWord_csub34)
  | lbReg d p q => exact agrees.decode_exact rfl (decodeWord_encode_lbReg d p q)
  | lwReg d p q => exact agrees.decode_exact rfl (decodeWord_encode_lwReg d p q)
  | sbReg r p q => exact agrees.decode_exact rfl (decodeWord_encode_sbReg q (bne_iff_ne.mp wf))
  | swReg r p q =>
    simp only [Instr.WellFormed, Instr.wellFormed, Bool.and_eq_true, bne_iff_ne] at wf
    obtain ⟨not_pc, ne⟩ := wf
    exact agrees.decode_exact rfl (decodeWord_encode_swReg q not_pc ne)
  | srReg r q => exact agrees.decode_exact rfl (decodeWord_encode_srReg r q)
  | slReg r q => exact agrees.decode_exact rfl (decodeWord_encode_slReg r q)
  | rrReg r q => exact agrees.decode_exact rfl (decodeWord_encode_rrReg r q)
  | rlReg r q => exact agrees.decode_exact rfl (decodeWord_encode_rlReg r q)
  | asrReg r q => exact agrees.decode_exact rfl (decodeWord_encode_asrReg r q)
  | xorReg r q => exact agrees.decode_exact rfl (decodeWord_encode_xorReg r q)
  | andReg r q => exact agrees.decode_exact rfl (decodeWord_encode_andReg r q)
  | orReg r q => exact agrees.decode_exact rfl (decodeWord_encode_orReg r q)
  | adcReg r q => exact agrees.decode_exact rfl (decodeWord_encode_adcReg r q)
  | sbbReg r q => exact agrees.decode_exact rfl (decodeWord_encode_sbbReg r q)
  | addReg r q => exact agrees.decode_exact rfl (decodeWord_encode_addReg r q)
  | subReg r q => exact agrees.decode_exact rfl (decodeWord_encode_subReg r q)
  | cmpReg r q => exact agrees.decode_exact rfl (decodeWord_encode_cmpReg r q)
  | mov d q => exact agrees.decode_exact rfl (decodeWord_encode_mov d q)
  | msr r q => exact agrees.decode_exact rfl (decodeWord_encode_msr r q)
  | reservedRegReg r w p l q => exact agrees.decode_exact rfl (decodeWord_reservedRegReg r w p l q)

/-- The two bytes of a word, low byte first, make up the word. -/
theorem wordOfBytes_extractLsb' (w : Word) : wordOfBytes (w.extractLsb' 0 8) (w.extractLsb' 8 8) = w :=
  (eq_append_extractLsb' (n := 8) (m := 8) w).symm

/-- Settles O1: the two bytes make up the word again, and the encoder's word is one of the instruction's words. -/
theorem decodeEncodeAgree : Obligations.DecodeEncodeAgree := by
  intro i rest wf
  rw [decode, wordOfBytes_extractLsb', decodeWord_of_agrees wf (agrees_encode i)]

end Sys2Proof

/-! Encoding after decoding (O2): every word is a word of a well-formed instruction (R100), major opcode by major
opcode. -/

namespace Sys2Proof

/-- `w` is a word of some well-formed instruction. -/
def Encodes (w : Word) : Prop := ∃ i : Instr, i.WellFormed ∧ Agrees w i

theorem encodes_of_eq {w : Word} (i : Instr) (wf : i.WellFormed) (word : encode i = w) : Encodes w :=
  ⟨i, wf, word ▸ agrees_encode i⟩

theorem encodes_of_III (i : Instr) {hi : BitVec 13} (x : BitVec 3) (wf : i.WellFormed)
    (ignored : i.ignoredBits = 0x0007) (word : encode i = hi ++ 0b111#3) : Encodes (hi ++ x) :=
  ⟨i, wf, (agrees_iff_of_III ignored word).mpr ⟨x, rfl⟩⟩

theorem encodes_of_imm6 (i : Instr) {hi : BitVec 9} (y : BitVec 6) (wf : i.WellFormed)
    (ignored : i.ignoredBits = 0x007E) (word : encode i = hi ++ (0#6 ++ 1#1)) : Encodes (hi ++ (y ++ 1#1)) :=
  ⟨i, wf, (agrees_iff_of_imm6 ignored word).mpr ⟨y, rfl⟩⟩

theorem parity (i : BitVec 7) : i.getLsbD 0 = false ∨ ∃ y : BitVec 6, i = y ++ 1#1 := by
  cases bit : i.getLsbD 0
  · exact .inl rfl
  · exact .inr ⟨_, eq_append_one bit⟩

/-! ### The slots of addm, subm and push -/

theorem encodes_addmHigh {n : Nat} (slot : n < 30) {i : BitVec 7} (even : n = 5 ∨ n = 11 → i.getLsbD 0 = false) :
    Encodes (addmHigh n ++ i) := by
  refine encodes_of_eq (addmOfSlot n i) ?_ ?_
  · interval_cases n <;> simp_all [addmOfSlot, Instr.WellFormed, Instr.wellFormed, memAluOperands, slotSrc,
      Reg.ofNum, Gpr.ofNum, evenImm]
  · interval_cases n <;> rfl

theorem encodes_submHigh {d n : Gpr} {i : BitVec 7} (not_r5 : d ≠ .r5)
    (even : n = .r5 → d ≠ .r4 → i.getLsbD 0 = false) : Encodes (submHigh d n.bits ++ i) := by
  refine encodes_of_eq (.subm d (slotSrc d.num n.num) i) ?_ ?_
  · cases d <;> cases n <;> simp_all [Instr.WellFormed, Instr.wellFormed, memAluOperands,
      slotSrc, Reg.ofNum, Gpr.num, evenImm]
  · cases d <;> cases n <;> rfl

theorem encodes_pushHigh (r : Gpr) (y : BitVec 6) : Encodes (pushHigh r ++ (y ++ 1#1)) :=
  encodes_of_imm6 (.pushReg r) y rfl (by cases r <;> rfl) (by cases r <;> rfl)

/-- The words of a destination's group belong to `subm`, but for the odd ones of the last position, which are those of
one `push` (R91). -/
theorem encodes_submGroup {d r : Gpr} (n : Gpr) (i : BitVec 7) (not_r5 : d ≠ .r5)
    (last : pushHigh r = submHigh d Gpr.r5.bits) : Encodes (submHigh d n.bits ++ i) := by
  by_cases n_last : n = .r5
  · subst n_last
    obtain even | ⟨y, rfl⟩ := parity i
    · exact encodes_submHigh not_r5 fun _ _ => even
    · exact last ▸ encodes_pushHigh r y
  · exact encodes_submHigh not_r5 fun r5 => absurd r5 n_last

/-! ### Major opcodes 000 to 110 -/

theorem encodes_major0 (a b : Reg) (i : BitVec 7) : Encodes (fieldsWord 0b000#3 a b i) := by
  rcases a with d | _ | _
  · exact encodes_of_eq (.lbImm d b i) rfl rfl
  · rcases b with r | _ | _
    · exact encodes_of_eq (.andImm r i) rfl rfl
    · exact encodes_addmHigh (n := 0) (by decide) (by simp)
    · exact encodes_addmHigh (n := 1) (by decide) (by simp)
  · rcases b with r | _ | _
    · exact encodes_of_eq (.orImm r i) rfl rfl
    · exact encodes_addmHigh (n := 2) (by decide) (by simp)
    · exact encodes_addmHigh (n := 3) (by decide) (by simp)

theorem encodes_major1 (a b : Reg) (i : BitVec 7) : Encodes (fieldsWord 0b001#3 a b i) := by
  by_cases ok : wordImmOk a b i = true
  · exact encodes_of_eq (.lwImm a b i) ok rfl
  rcases a with d | _ | _
  · obtain even | ⟨y, rfl⟩ := parity i
    · exact absurd ((evenImm_iff i).mpr even) (by cases b <;> simp_all [wordImmOk])
    rcases b with b | _ | _
    · exact absurd rfl ok
    · by_cases inc : (y ++ 1#1 : BitVec 7) = 1
      · rw [inc]
        exact encodes_of_eq (.incmInd d) rfl (by cases d <;> rfl)
      by_cases dec : (y ++ 1#1 : BitVec 7) = 127
      · rw [dec]
        exact encodes_of_eq (.decmInd d) rfl (by cases d <;> rfl)
      · exact encodes_of_eq (.reservedIncm d (y ++ 1#1)) (by simp_all [Instr.WellFormed, Instr.wellFormed, evenImm]) rfl
    · exact encodes_of_imm6 (.adcz d) y rfl rfl (by cases d <;> rfl)
  · exact absurd rfl ok
  · exact absurd rfl ok

theorem encodes_major2 (a b : Reg) (i : BitVec 7) : Encodes (fieldsWord 0b010#3 a b i) := by
  rcases a with r | _ | _
  · by_cases same : b = .gpr r
    · subst same
      exact encodes_submGroup (d := .r0) (r := .r2) r i (by decide) rfl
    · exact encodes_of_eq (.sbImm r b i) (bne_iff_ne.mpr same) rfl
  · rcases b with r | _ | _
    · exact encodes_of_eq (.xorImm r i) rfl rfl
    · exact encodes_addmHigh (n := 4) (by decide) (by simp)
    · obtain even | ⟨y, rfl⟩ := parity i
      · exact encodes_addmHigh (n := 5) (by decide) fun _ => even
      · exact encodes_pushHigh .r0 y
  · rcases b with r | _ | _
    · exact encodes_of_eq (.cmpImm r i) rfl rfl
    · exact encodes_addmHigh (n := 6) (by decide) (by simp)
    · exact encodes_addmHigh (n := 7) (by decide) (by simp)

theorem encodes_major3 (a b : Reg) (i : BitVec 7) : Encodes (fieldsWord 0b011#3 a b i) := by
  rcases a with r | _ | _
  · rcases b with b | _ | _
    · by_cases same : b = r
      · subst same
        exact encodes_submGroup (d := .r1) (r := .r3) b i (by decide) rfl
      · exact encodes_of_eq (.swImm (.gpr r) (.gpr b) i)
          (by simp [Instr.WellFormed, Instr.wellFormed, wordImmOk, same]) rfl
    · obtain even | ⟨y, rfl⟩ := parity i
      · exact encodes_of_eq (.swImm (.gpr r) .sp i) ((evenImm_iff i).mpr even) rfl
      · exact encodes_of_imm6 (.dincmInd r) y rfl rfl (by cases r <;> rfl)
    · obtain even | ⟨y, rfl⟩ := parity i
      · exact encodes_of_eq (.swImm (.gpr r) .pc i) ((evenImm_iff i).mpr even) rfl
      · exact encodes_of_imm6 (.ddecmInd r) y rfl rfl (by cases r <;> rfl)
  · rcases b with b | _ | _
    · exact encodes_of_eq (.swImm .sp (.gpr b) i) rfl rfl
    · exact encodes_of_eq (.reservedSwSp i) rfl rfl
    · exact encodes_of_eq (.swImm .sp .pc i) rfl rfl
  · rcases b with n | _ | _
    · exact encodes_submGroup (d := .r2) (r := .r4) n i (by decide) rfl
    · exact encodes_addmHigh (n := 12) (by decide) (by simp)
    · exact encodes_addmHigh (n := 13) (by decide) (by simp)

theorem encodes_major4 (a b : Reg) (i : BitVec 7) : Encodes (fieldsWord 0b100#3 a b i) := by
  rcases a with d | _ | _
  · exact encodes_of_eq (.addImm d b i) rfl rfl
  · rcases b with b | _ | _
    · exact encodes_of_eq (.addSp (.gpr b) i) rfl rfl
    · obtain even | ⟨y, rfl⟩ := parity i
      · exact encodes_of_eq (.addSp .sp i) ((evenImm_iff i).mpr even) rfl
      · exact encodes_of_eq (.swi y) rfl (encode_swi y)
    · exact encodes_of_eq (.pushImm i) rfl rfl
  · rcases b with b | _ | _
    · by_cases even : evenImm i = true
      · exact encodes_of_eq (.addPc b i) even rfl
      · exact encodes_of_eq (.addPcLink b i) (by simp [Instr.WellFormed, Instr.wellFormed, even]) rfl
    · exact encodes_addmHigh (n := 8) (by decide) (by simp)
    · exact encodes_addmHigh (n := 9) (by decide) (by simp)

/-- The immediate of nine bits reaches into bits 8:7 (R97, R98). -/
theorem fieldsWord_imm9 (m : BitVec 3) (a b : Reg) (i : BitVec 7) :
    fieldsWord m a b i = m ++ a.bits ++ b.bits.extractLsb' 2 1 ++ (b.bits.extractLsb' 0 2 ++ i) := by
  have split := eq_append_extractLsb' (n := 1) (m := 2) b.bits
  rw [fieldsWord]
  conv_lhs => rw [split]
  simp only [BitVec.append_assoc, BitVec.cast_eq]

/-- The immediate of eight bits reaches into bits 8:7 (R97). -/
theorem append_imm8_bit (op : BitVec 7) (c : BitVec 2) (y : BitVec 6) (x : BitVec 1) :
    op ++ (c ++ y) ++ x = op ++ (c ++ (y ++ x)) := by
  simp only [BitVec.append_assoc, BitVec.cast_eq]

/-- With sp in bits 12:10 and 0 in bit 9, bit 0 tells j from the reserved words (R97). -/
theorem encodes_j (c : BitVec 2) (i : BitVec 7) : Encodes (0b1011100#7 ++ (c ++ i)) := by
  obtain even | ⟨y, rfl⟩ := parity i
  · rw [eq_append_zero even]
    exact encodes_of_eq (.reservedLiSp (c ++ i.extractLsb' 1 6)) rfl (append_imm8_bit _ c _ 0#1)
  · exact encodes_of_eq (.j (c ++ y)) rfl (append_imm8_bit _ c y 1#1)

theorem encodes_major5 (a b : Reg) (i : BitVec 7) : Encodes (fieldsWord 0b101#3 a b i) := by
  rcases a with d | _ | _
  · rw [fieldsWord_imm9]
    obtain zero | one := bit_cases (b.bits.extractLsb' 2 1)
    · rw [zero]
      exact encodes_of_eq (.li d _) rfl rfl
    · rw [one]
      exact encodes_of_eq (.addu (.gpr d) _) rfl rfl
  · rw [fieldsWord_imm9]
    obtain zero | one := bit_cases (b.bits.extractLsb' 2 1)
    · rw [zero]
      exact encodes_j (b.bits.extractLsb' 0 2) i
    · rw [one]
      exact encodes_of_eq (.addu .sp _) rfl rfl
  · rcases b with n | _ | _
    · exact encodes_submGroup (d := .r3) (r := .r5) n i (by decide) rfl
    · exact encodes_addmHigh (n := 10) (by decide) (by simp)
    · obtain even | ⟨y, rfl⟩ := parity i
      · exact encodes_addmHigh (n := 11) (by decide) fun _ => even
      · exact encodes_pushHigh .r1 y

/-- The immediate of jal reaches into bit 10 (R98). -/
theorem append_jal (x : BitVec 1) (b : Reg) (i : BitVec 7) :
    0b11011#5 ++ (x ++ b.bits ++ i) = 0b11011#5 ++ x ++ b.bits ++ i := by
  simp only [BitVec.append_assoc, BitVec.cast_eq]

/-- In major opcode 110 with 0 in bit 9, bit 0 tells the sp-relative family from the words that share its rows (R98). -/
theorem encodes_spRelative (d : Gpr) {b : Gpr} (low : b = .r0 ∨ b = .r1 ∨ b = .r2 ∨ b = .r3) (i : BitVec 7) :
    Encodes (fieldsWord 0b110#3 (.gpr d) (.gpr b) i) := by
  obtain even | ⟨y, rfl⟩ := parity i
  · have ok := (evenImm_iff i).mpr even
    obtain rfl | rfl | rfl | rfl := low
    · exact encodes_of_eq (.incmSp d i) ok rfl
    · exact encodes_of_eq (.decmSp d i) ok rfl
    · exact encodes_of_eq (.dincmSp d i) ok rfl
    · exact encodes_of_eq (.ddecmSp d i) ok rfl
  · obtain rfl | rfl | rfl | rfl := low
    · by_cases last : d = .r5
      · subst last
        exact encodes_of_eq (.last y) rfl (encode_last y)
      · exact encodes_of_imm6 (.ls5r d) y (bne_iff_ne.mpr last) rfl (by cases d <;> rfl)
    · by_cases last : d = .r5
      · subst last
        exact encodes_of_eq (.reservedSs5r y) rfl (encode_reservedSs5r y)
      · exact encodes_of_imm6 (.ss5r d) y (bne_iff_ne.mpr last) rfl (by cases d <;> rfl)
    · exact encodes_of_eq (.reservedDincmSp d (0#1 ++ y)) rfl (encode_reservedDincmSp_zero d y)
    · exact encodes_of_eq (.reservedDincmSp d (1#1 ++ y)) rfl (encode_reservedDincmSp_one d y)

/-- With 1 in bit 9 it is lurpc (R98). -/
theorem encodes_lurpc (d : Gpr) {b : Reg} (high : b.bits.extractLsb' 2 1 = 1#1) (i : BitVec 7) :
    Encodes (fieldsWord 0b110#3 (.gpr d) b i) := by
  rw [fieldsWord_imm9, high]
  exact encodes_of_eq (.lurpc d _) rfl rfl

theorem encodes_major6 (a b : Reg) (i : BitVec 7) : Encodes (fieldsWord 0b110#3 a b i) := by
  rcases a with d | _ | _
  · rcases b with b | _ | _
    · cases b with
      | r0 => exact encodes_spRelative d (by simp) i
      | r1 => exact encodes_spRelative d (by simp) i
      | r2 => exact encodes_spRelative d (by simp) i
      | r3 => exact encodes_spRelative d (by simp) i
      | r4 => exact encodes_lurpc d rfl i
      | r5 => exact encodes_lurpc d rfl i
    · exact encodes_lurpc d rfl i
    · exact encodes_lurpc d rfl i
  · exact encodes_of_eq (.jal (0#1 ++ b.bits ++ i)) rfl (append_jal 0#1 b i)
  · exact encodes_of_eq (.jal (1#1 ++ b.bits ++ i)) rfl (append_jal 1#1 b i)

/-! ### Major opcode 111 -/

theorem encodes_jump_low (a : Reg) (i : BitVec 7) : Encodes (fieldsWord 0b111#3 a (.gpr .r0) i) := by
  rcases a with c | _ | _
  · cases c with
    | r0 => exact encodes_of_eq (.jc i) rfl rfl
    | r1 => exact encodes_of_eq (.jz i) rfl rfl
    | r2 => exact encodes_of_eq (.js i) rfl rfl
    | r3 => exact encodes_of_eq (.jleu i) rfl rfl
    | r4 => exact encodes_of_eq (.jl i) rfl rfl
    | r5 => exact encodes_of_eq (.jle i) rfl rfl
  · exact encodes_of_eq (.jo i) rfl rfl
  · exact encodes_of_eq (.jno i) rfl rfl

theorem encodes_jump_high (c : Gpr) (i : BitVec 7) : Encodes (fieldsWord 0b111#3 (.gpr c) (.gpr .r1) i) := by
  cases c with
  | r0 => exact encodes_of_eq (.jnc i) rfl rfl
  | r1 => exact encodes_of_eq (.jnz i) rfl rfl
  | r2 => exact encodes_of_eq (.jns i) rfl rfl
  | r3 => exact encodes_of_eq (.jgu i) rfl rfl
  | r4 => exact encodes_of_eq (.jge i) rfl rfl
  | r5 => exact encodes_of_eq (.jg i) rfl rfl

theorem encodes_mrsSpace (a : Reg) (not_gpr : a = .sp ∨ a = .pc) (i : BitVec 7) :
    Encodes (fieldsWord 0b111#3 a (.gpr .r1) i) := by
  refine ⟨mrsOfNumber (16 * (a.num - 6) + (i.extractLsb' 3 4).toNat) (i.extractLsb' 0 3), ?_⟩
  unfold Agrees
  revert i
  obtain rfl | rfl := not_gpr <;> decide

theorem encodes_addm_slots (a : Reg) {b : Reg} (sub : b = .gpr .r2 ∨ b = .gpr .r3) (i : BitVec 7) :
    Encodes (fieldsWord 0b111#3 a b i) := by
  obtain ⟨n, slot, late, high⟩ : ∃ n, n < 30 ∧ 14 ≤ n ∧ 0b111#3 ++ a.bits ++ b.bits = addmHigh n := by
    obtain rfl | rfl := sub
    · refine ⟨14 + 2 * a.num, ?_⟩
      rcases a with (_ | _ | _ | _ | _ | _) | _ | _ <;> decide
    · refine ⟨15 + 2 * a.num, ?_⟩
      rcases a with (_ | _ | _ | _ | _ | _) | _ | _ <;> decide
  rw [fieldsWord, high]
  exact encodes_addmHigh slot (by omega)

theorem encodes_unary (a : Reg) (i : BitVec 7) : Encodes (fieldsWord 0b111#3 a (.gpr .r4) i) := by
  rcases a with n | _ | _
  · exact encodes_submHigh (d := .r4) (n := n) (by decide) (by simp)
  · obtain ⟨p, l, x, rfl⟩ := exists_lowFields i
    rw [fieldsWord_lowFields]
    rcases p with p | _ | _
    · cases l with
      | false => exact encodes_of_III (.zxt p) x rfl rfl (by cases p <;> rfl)
      | true => exact encodes_of_III (.sxt p) x rfl rfl (by cases p <;> rfl)
    · cases l with
      | false => exact encodes_of_III (.pop .r0) x rfl rfl rfl
      | true => exact encodes_of_III (.pop .r1) x rfl rfl rfl
    · cases l with
      | false => exact encodes_of_III (.pop .r2) x rfl rfl rfl
      | true => exact encodes_of_III (.pop .r3) x rfl rfl rfl
  · obtain ⟨p, l, x, rfl⟩ := exists_lowFields i
    rw [fieldsWord_lowFields]
    rcases p with p | _ | _
    · cases l with
      | false => exact encodes_of_III (.cpl p) x rfl rfl (by cases p <;> rfl)
      | true => exact encodes_of_III (.neg p) x rfl rfl (by cases p <;> rfl)
    · cases l with
      | false => exact encodes_of_III (.pop .r4) x rfl rfl rfl
      | true => exact encodes_of_III (.pop .r5) x rfl rfl rfl
    · cases l with
      | false => exact encodes_of_III .mf2 x rfl rfl rfl
      | true => exact encodes_of_III .m2f x rfl rfl rfl

/-- With sp or pc both in bits 12:10 and in bits 6:4 the rows of bits 9:7 = 101 are those without operands. -/
theorem encodes_systemHelpers {a p : Reg} (a_high : a = .sp ∨ a = .pc) (p_high : p = .sp ∨ p = .pc) (l : Bool)
    (x : BitVec 3) : Encodes (fieldsWord 0b111#3 a (.gpr .r5) (lowFields p l x)) := by
  rw [fieldsWord_lowFields]
  obtain rfl | rfl := a_high
  · obtain rfl | rfl := p_high
    · cases l with
      | false => exact encodes_of_III .di x rfl rfl rfl
      | true => exact encodes_of_III .ei x rfl rfl rfl
    · cases l with
      | false => exact encodes_of_III .reti x rfl rfl rfl
      | true => exact encodes_of_eq (.reservedHlt x) rfl rfl
  · obtain rfl | rfl := p_high
    · cases l with
      | false => exact encodes_of_III .add22adc33 x rfl rfl rfl
      | true => exact encodes_of_III .cadd24 x rfl rfl rfl
    · cases l with
      | false => exact encodes_of_III .cadd24adc3z x rfl rfl rfl
      | true => exact encodes_of_III .csub34 x rfl rfl rfl

/-- A general register in bits 12:10 makes sac, or asr or rl, which reserve the count 0 (R220). -/
theorem encodes_count_gpr (d : Gpr) (p : Reg) (k : BitVec 4) :
    Encodes (fieldsWord 0b111#3 (.gpr d) (.gpr .r5) (p.bits ++ k)) := by
  rw [fieldsWord_count]
  rcases p with p | _ | _
  · exact encodes_of_eq (.sac d p k) rfl rfl
  · by_cases zero : k = 0#4
    · subst zero
      exact encodes_of_eq (.reservedAsr d) rfl (by cases d <;> rfl)
    · exact encodes_of_eq (.asrImm d k) (bne_iff_ne.mpr zero) (by cases d <;> rfl)
  · by_cases zero : k = 0#4
    · subst zero
      exact encodes_of_eq (.reservedRl d) rfl (by cases d <;> rfl)
    · exact encodes_of_eq (.rlImm d k) (bne_iff_ne.mpr zero) (by cases d <;> rfl)

theorem encodes_srCount (p : Gpr) (k : BitVec 4) :
    Encodes (fieldsWord 0b111#3 .sp (.gpr .r5) ((Reg.gpr p).bits ++ k)) := by
  rw [fieldsWord_count]
  by_cases zero : k = 0#4
  · subst zero
    exact encodes_of_eq (.reservedSr p) rfl rfl
  · exact encodes_of_eq (.srImm p k) (bne_iff_ne.mpr zero) rfl

/-- sl reserves the count 1 besides 0 (R220). -/
theorem encodes_slCount (p : Gpr) (k : BitVec 4) :
    Encodes (fieldsWord 0b111#3 .pc (.gpr .r5) ((Reg.gpr p).bits ++ k)) := by
  rw [fieldsWord_count]
  by_cases zero : k = 0#4
  · subst zero
    exact encodes_of_eq (.reservedSl p 0) rfl (by cases p <;> rfl)
  by_cases one : k = 1#4
  · subst one
    exact encodes_of_eq (.reservedSl p 1) rfl (by cases p <;> rfl)
  · exact encodes_of_eq (.slImm p k) (Bool.and_eq_true_iff.mpr ⟨bne_iff_ne.mpr zero, bne_iff_ne.mpr one⟩) rfl

theorem encodes_shiftImm (a : Reg) (i : BitVec 7) : Encodes (fieldsWord 0b111#3 a (.gpr .r5) i) := by
  obtain ⟨p, l, x, rfl⟩ := exists_lowFields i
  have count : lowFields p l x = p.bits ++ (BitVec.ofBool l ++ x) := by
    simp only [lowFields, BitVec.append_assoc, BitVec.cast_eq]
  rcases a with d | _ | _
  · exact count ▸ encodes_count_gpr d p _
  · rcases p with p | _ | _
    · exact count ▸ encodes_srCount p _
    · exact encodes_systemHelpers (.inl rfl) (.inl rfl) l x
    · exact encodes_systemHelpers (.inl rfl) (.inr rfl) l x
  · rcases p with p | _ | _
    · exact count ▸ encodes_slCount p _
    · exact encodes_systemHelpers (.inr rfl) (.inl rfl) l x
    · exact encodes_systemHelpers (.inr rfl) (.inr rfl) l x

/-- The register-register words of two general registers. -/
theorem encodes_regReg_gpr (d p : Gpr) {b : Reg} (sub : b = .sp ∨ b = .pc) (l : Bool) (q : Reg) :
    Encodes (0b111#3 ++ d.bits ++ b.bits ++ p.bits ++ BitVec.ofBool l ++ q.bits) := by
  obtain rfl | rfl := sub
  · cases l with
    | false => exact encodes_of_eq (.lbReg d p q) rfl rfl
    | true =>
      by_cases same : p = d
      · subst same
        exact encodes_of_eq (.mov p q) rfl rfl
      · exact encodes_of_eq (.sbReg d p q) (bne_iff_ne.mpr same) rfl
  · cases l with
    | false => exact encodes_of_eq (.lwReg (.gpr d) p q) rfl rfl
    | true =>
      by_cases same : d = p
      · subst same
        exact encodes_of_eq (.msr d q) rfl rfl
      · exact encodes_of_eq (.swReg (.gpr d) p q) (by simpa [Instr.WellFormed, Instr.wellFormed] using same) rfl

/-- With sp or pc both in bits 12:10 and in bits 6:4 a register-register word is reserved (R112). -/
theorem encodes_reserved {a b p : Reg} (a_high : a = .sp ∨ a = .pc) (sub : b = .sp ∨ b = .pc)
    (p_high : p = .sp ∨ p = .pc) (l : Bool) (x : BitVec 3) :
    Encodes (0b111#3 ++ a.bits ++ b.bits ++ p.bits ++ BitVec.ofBool l ++ x) := by
  refine encodes_of_eq (.reservedRegReg (a.bits.extractLsb' 0 1) (b.bits.extractLsb' 0 1) (p.bits.extractLsb' 0 1)
    (BitVec.ofBool l) x) rfl ?_
  obtain rfl | rfl := a_high <;> obtain rfl | rfl := sub <;> obtain rfl | rfl := p_high <;> cases l <;> rfl

theorem encodes_regReg (a : Reg) {b : Reg} (sub : b = .sp ∨ b = .pc) (i : BitVec 7) :
    Encodes (fieldsWord 0b111#3 a b i) := by
  obtain ⟨p, l, x, rfl⟩ := exists_lowFields i
  obtain ⟨q, rfl⟩ : ∃ q : Reg, x = q.bits := ⟨Reg.ofBits x, (Reg.bits_ofBits x).symm⟩
  rw [fieldsWord_lowFields]
  rcases a with d | _ | _
  · rcases p with p | _ | _
    · exact encodes_regReg_gpr d p sub l q
    · obtain rfl | rfl := sub
      · cases l with
        | false => exact encodes_of_eq (.srReg d q) rfl (by cases d <;> rfl)
        | true => exact encodes_of_eq (.slReg d q) rfl (by cases d <;> rfl)
      · cases l with
        | false => exact encodes_of_eq (.rrReg d q) rfl (by cases d <;> rfl)
        | true => exact encodes_of_eq (.rlReg d q) rfl (by cases d <;> rfl)
    · obtain rfl | rfl := sub
      · cases l with
        | false => exact encodes_of_eq (.asrReg d q) rfl (by cases d <;> rfl)
        | true => exact encodes_of_eq (.xorReg d q) rfl (by cases d <;> rfl)
      · cases l with
        | false => exact encodes_of_eq (.andReg d q) rfl (by cases d <;> rfl)
        | true => exact encodes_of_eq (.orReg d q) rfl (by cases d <;> rfl)
  · rcases p with p | _ | _
    · obtain rfl | rfl := sub
      · cases l with
        | false => exact encodes_of_eq (.adcReg p q) rfl rfl
        | true => exact encodes_of_eq (.sbbReg p q) rfl rfl
      · cases l with
        | false => exact encodes_of_eq (.lwReg .sp p q) rfl rfl
        | true => exact encodes_of_eq (.swReg .sp p q) rfl rfl
    · exact encodes_reserved (.inl rfl) sub (.inl rfl) l q.bits
    · exact encodes_reserved (.inl rfl) sub (.inr rfl) l q.bits
  · rcases p with p | _ | _
    · obtain rfl | rfl := sub
      · cases l with
        | false => exact encodes_of_eq (.addReg p q) rfl rfl
        | true => exact encodes_of_eq (.subReg p q) rfl rfl
      · cases l with
        | false => exact encodes_of_eq (.lwReg .pc p q) rfl rfl
        | true => exact encodes_of_eq (.cmpReg p q) rfl rfl
    · exact encodes_reserved (.inr rfl) sub (.inl rfl) l q.bits
    · exact encodes_reserved (.inr rfl) sub (.inr rfl) l q.bits

theorem encodes_major7 (a b : Reg) (i : BitVec 7) : Encodes (fieldsWord 0b111#3 a b i) := by
  rcases b with b | _ | _
  · cases b with
    | r0 => exact encodes_jump_low a i
    | r1 =>
      rcases a with c | _ | _
      · exact encodes_jump_high c i
      · exact encodes_mrsSpace .sp (.inl rfl) i
      · exact encodes_mrsSpace .pc (.inr rfl) i
    | r2 => exact encodes_addm_slots a (.inl rfl) i
    | r3 => exact encodes_addm_slots a (.inr rfl) i
    | r4 => exact encodes_unary a i
    | r5 => exact encodes_shiftImm a i
  · exact encodes_regReg a (.inl rfl) i
  · exact encodes_regReg a (.inr rfl) i

theorem bitVec3_cases (m : BitVec 3) :
    m = 0b000#3 ∨ m = 0b001#3 ∨ m = 0b010#3 ∨ m = 0b011#3 ∨ m = 0b100#3 ∨ m = 0b101#3 ∨ m = 0b110#3 ∨ m = 0b111#3 := by
  revert m
  decide

/-- Every word is a word of a well-formed instruction (R100). -/
theorem encodes (w : Word) : Encodes w := by
  obtain ⟨m, a, b, i, rfl⟩ := exists_fieldsWord w
  obtain rfl | rfl | rfl | rfl | rfl | rfl | rfl | rfl := bitVec3_cases m
  · exact encodes_major0 a b i
  · exact encodes_major1 a b i
  · exact encodes_major2 a b i
  · exact encodes_major3 a b i
  · exact encodes_major4 a b i
  · exact encodes_major5 a b i
  · exact encodes_major6 a b i
  · exact encodes_major7 a b i

theorem decodeWord_faithful (w : Word) : (decodeWord w).WellFormed ∧ Agrees w (decodeWord w) := by
  obtain ⟨i, wf, agrees⟩ := encodes w
  rw [decodeWord_of_agrees wf agrees]
  exact ⟨wf, agrees⟩

/-- Words that differ in ignored bits only are words of the same instruction. -/
theorem Agrees.change_ignored {w : Word} {i : Instr} (agrees : Agrees w i) (x : Word) :
    Agrees ((w &&& ~~~i.ignoredBits) ||| (x &&& i.ignoredBits)) i := by
  have dropped : x &&& i.ignoredBits &&& ~~~i.ignoredBits = 0#16 := by
    rw [BitVec.and_assoc, BitVec.and_not_self]
    exact BitVec.and_zero
  rw [Agrees, ← agrees, BitVec.and_or_distrib_right, BitVec.and_assoc, BitVec.and_self, dropped, BitVec.or_zero]

/-- Settles O2: every word agrees with what it decodes to, and so does the word with other ignored bits. -/
theorem encodeDecodeAgree : Obligations.EncodeDecodeAgree := by
  intro w x
  obtain ⟨wf, agrees⟩ := decodeWord_faithful w
  exact ⟨wf, agrees.symm, decodeWord_of_agrees wf (agrees.change_ignored x)⟩

end Sys2Proof

/-! What a completed instruction can change (R23, R25, R29 to R33, R61): first what it does on the bus, then what it
does to the CPU. -/

namespace Sys2Proof.Machine

/-- What `i` may have changed on the bus when it has got to `u`: memory if it stores, always keeping the canonical form,
and the record of the devices if it loads or stores. -/
structure BusChange (i : Instr) (s u : State) : Prop where
  eq : u = (s.setMem u.mem).setBusLog u.busLog
  mem_wf : s.mem.Wf → u.mem.Wf
  mem : i.storesToMemory = false → u.mem = s.mem
  busLog : i.loadsFromMemory = false → i.storesToMemory = false → u.busLog = s.busLog

/-- What `i` may change besides in going from `u`, where it is through with the bus, to `t`. -/
structure CpuChange (i : Instr) (u t : State) : Prop where
  outside : t.mem = u.mem ∧ t.busLog = u.busLog ∧ t.platform = u.platform ∧ t.irqEvents = u.irqEvents
  ie : t.ie = u.ie ∨ i = .di ∨ i = .ei ∨ i = .reti ∨ ∃ k, i = .swi k
  sels : t.sels = u.sels ∨ ∃ n q, i = .msr n q
  mask : t.mask = u.mask ∨ i = .mf2
  req : t.req = u.req ∨ i = .mf2 ∧ ∀ k, t.req.getLsbD k = true → u.req.getLsbD k = true
  sp : i.writesSp = false → t.sp = u.sp
  sp_even : u.sp.getLsbD 0 = false → t.sp.getLsbD 0 = false
  flags : i.changesFlags = false → t.flags = u.flags
  pc : i.transfersControl = false → t.pc = u.advance.pc
  pc_even : t.pc.getLsbD 0 = false

/-! ### On the bus -/

section Bus
variable {i : Instr} {s u v : State}

theorem BusChange.none (i : Instr) (s : State) : BusChange i s s := ⟨rfl, id, fun _ => rfl, fun _ _ => rfl⟩

theorem BusChange.load {l : List (Nat × Access)} (loads : i.loadsFromMemory = true) : BusChange i s (s.setBusLog l) :=
  ⟨rfl, id, fun _ => rfl, fun no => absurd (no.symm.trans loads) Bool.false_ne_true⟩

theorem BusChange.store {m : Memory} {l : List (Nat × Access)} (stores : i.storesToMemory = true)
    (wf : s.mem.Wf → m.Wf) : BusChange i s ((s.setMem m).setBusLog l) :=
  ⟨rfl, wf, fun no => absurd (no.symm.trans stores) Bool.false_ne_true,
    fun _ no => absurd (no.symm.trans stores) Bool.false_ne_true⟩

theorem BusChange.readByte {k : Space} {a : Word} {x : Byte} (loads : i.loadsFromMemory = true)
    (read : s.readByte k a = .ok (x, u)) : BusChange i s u := by
  obtain ⟨l, rfl⟩ := State.busRead_ok read
  exact .load loads

theorem BusChange.readWord {k : Space} {a x : Word} (loads : i.loadsFromMemory = true)
    (read : s.readWord k a = .ok (x, u)) : BusChange i s u := by
  obtain ⟨-, l, rfl⟩ := State.readWord_ok read
  exact .load loads

theorem BusChange.writeByte {k : Space} {a : Word} {x : Byte} (stores : i.storesToMemory = true)
    (written : s.writeByte k a x = .ok u) : BusChange i s u := by
  obtain ⟨m, l, rfl, wf⟩ := State.busWrite_ok written
  exact .store stores wf

theorem BusChange.writeWord {k : Space} {a x : Word} (stores : i.storesToMemory = true)
    (written : s.writeWord k a x = .ok u) : BusChange i s u := by
  obtain ⟨-, m, l, rfl, wf⟩ := State.writeWord_ok written
  exact .store stores wf

theorem BusChange.trans (first : BusChange i s u) (second : BusChange i u v) : BusChange i s v := by
  refine ⟨?_, second.mem_wf ∘ first.mem_wf, fun no => (second.mem no).trans (first.mem no),
    fun no_load no_store => (second.busLog no_load no_store).trans (first.busLog no_load no_store)⟩
  rw [second.eq, first.eq]
  rfl

end Bus

/-! ### In the CPU -/

section Cpu
variable {i : Instr} {u t : State}

/-- With the system state kept, it is enough to say what became of sp, pc and the flags. -/
theorem CpuChange.of_sameSystem (outside : t.mem = u.mem ∧ SameSystem u t)
    (sp : t.sp = u.sp ∨ i.writesSp = true ∧ ∃ v, t.sp = dropBit0 v)
    (pc : t.pc = u.advance.pc ∨ i.transfersControl = true ∧ ∃ v, t.pc = dropBit0 v)
    (flags : t.flags = u.flags ∨ i.changesFlags = true) : CpuChange i u t := by
  obtain ⟨mem, mask, req, ie, sels, platform, irqEvents, busLog⟩ := outside
  have sp_even : u.sp.getLsbD 0 = false → t.sp.getLsbD 0 = false := fun even => by
    obtain same | ⟨-, v, written⟩ := sp
    · rw [same, even]
    · rw [written, dropBit0_getLsbD_zero]
  have pc_even : t.pc.getLsbD 0 = false := by
    obtain next | ⟨-, v, written⟩ := pc
    · exact next ▸ dropBit0_getLsbD_zero _
    · rw [written, dropBit0_getLsbD_zero]
  exact ⟨⟨mem, busLog, platform, irqEvents⟩, .inl ie, .inl sels, .inl mask, .inl req,
    fun no => sp.resolve_right fun ⟨yes, _⟩ => Bool.false_ne_true (no.symm.trans yes), sp_even,
    fun no => flags.resolve_right fun yes => Bool.false_ne_true (no.symm.trans yes),
    fun no => pc.resolve_right fun ⟨yes, _⟩ => Bool.false_ne_true (no.symm.trans yes), pc_even⟩

/-- General registers, draws and, where allowed, the flags. -/
theorem CpuChange.registers (u : State) (r : Regs) (f : Flags) (n : Nat) (flags : f = u.flags ∨ i.changesFlags = true) :
    CpuChange i u { u.advance with regs := r, flags := f, draws := n } :=
  .of_sameSystem ⟨rfl, rfl, rfl, rfl, rfl, rfl, rfl, rfl⟩ (.inl rfl) (.inl rfl) flags

theorem CpuChange.setSp (u : State) (v : Word) (writes : i.writesSp = true) : CpuChange i u (u.advance.setSp v) :=
  .of_sameSystem ⟨rfl, rfl, rfl, rfl, rfl, rfl, rfl, rfl⟩ (.inr ⟨writes, v, rfl⟩) (.inl rfl) (.inl rfl)

theorem CpuChange.setPc (u : State) (v : Word) (transfers : i.transfersControl = true) : CpuChange i u (u.setPc v) :=
  .of_sameSystem ⟨rfl, rfl, rfl, rfl, rfl, rfl, rfl, rfl⟩ (.inl rfl) (.inr ⟨transfers, v, rfl⟩) (.inl rfl)

theorem CpuChange.setIe (change : CpuChange i u t) (b : Bool)
    (allowed : i = .di ∨ i = .ei ∨ i = .reti ∨ ∃ k, i = .swi k) : CpuChange i u (t.setIe b) :=
  { change with ie := .inr allowed }

end Cpu

/-! ### The shapes of the meanings -/

/-- A bus phase and then a CPU phase that `i` is allowed. -/
def Changes (i : Instr) (s t : State) : Prop := ∃ u, BusChange i s u ∧ CpuChange i u t

theorem Changes.alone {i : Instr} {s t : State} (change : CpuChange i s t) : Changes i s t := ⟨s, .none i s, change⟩

section Shapes
variable {i : Instr} {s t : State}

theorem changes_of_aluResult {d : Gpr} {r : Word × Flags} (flags : i.changesFlags = true)
    (ran : aluResult s d r = .next t) : Changes i s t := by
  obtain rfl := (next_eq_next_iff _ _).mp ran
  exact .alone (.registers s _ _ _ (.inr flags))

theorem changes_of_two_registers {d e : Gpr} {v w : Word} {f : Flags} (flags : i.changesFlags = true)
    (ran : (.next (((s.advance.setGpr d v).setGpr e w).setFlags f) : Result) = .next t) : Changes i s t := by
  obtain rfl := (next_eq_next_iff _ _).mp ran
  exact .alone (.registers s _ _ _ (.inr flags))

theorem changes_of_flagsResult {f : Flags} (flags : i.changesFlags = true) (ran : flagsResult s f = .next t) :
    Changes i s t := by
  obtain rfl := (next_eq_next_iff _ _).mp ran
  exact .alone (.registers s _ _ _ (.inr flags))

theorem changes_of_plainResult {d : Gpr} {v : Word} (ran : plainResult s d v = .next t) : Changes i s t := by
  obtain rfl := (next_eq_next_iff _ _).mp ran
  exact .alone (.registers s _ _ _ (.inl rfl))

theorem changes_of_jumpIf {cond : Bool} {d : BitVec 7} (transfers : i.transfersControl = true)
    (ran : jumpIf cond d s = .next t) : Changes i s t := by
  obtain rfl := (next_eq_next_iff _ _).mp ran
  cases cond with
  | false => exact .alone (.registers s _ _ _ (.inl rfl))
  | true => exact .alone (.setPc s _ transfers)

theorem changes_of_setPc {v : Word} (transfers : i.transfersControl = true)
    (ran : (.next (s.setPc v) : Result) = .next t) : Changes i s t := by
  obtain rfl := (next_eq_next_iff _ _).mp ran
  exact .alone (.setPc s v transfers)

theorem changes_of_link {v w : Word} (transfers : i.transfersControl = true)
    (ran : (.next ((s.setGpr .r5 v).setPc w) : Result) = .next t) : Changes i s t := by
  obtain rfl := (next_eq_next_iff _ _).mp ran
  exact .alone (.of_sameSystem ⟨rfl, rfl, rfl, rfl, rfl, rfl, rfl, rfl⟩ (.inl rfl) (.inr ⟨transfers, w, rfl⟩)
    (.inl rfl))

/-- A value written to a register is allowed where `i` may write sp, or jump, if that register is sp or pc. -/
theorem CpuChange.setReg (d : Reg) (v : Word) (sp : d = .sp → i.writesSp = true)
    (pc : d = .pc → i.transfersControl = true) : CpuChange i s (s.advance.setReg d v) := by
  cases d with
  | gpr d => exact .registers _ _ _ _ (.inl rfl)
  | sp => exact .setSp s v (sp rfl)
  | pc =>
    exact .of_sameSystem ⟨rfl, rfl, rfl, rfl, rfl, rfl, rfl, rfl⟩ (.inl rfl) (.inr ⟨pc rfl, v, rfl⟩) (.inl rfl)

theorem changes_of_loadByte {d : Gpr} {k : Space} {a : Word} (loads : i.loadsFromMemory = true)
    (ran : loadByte s d k a = .next t) : Changes i s t := by
  obtain ⟨v, u, read, rfl⟩ := (loadByte_next_iff s t d k a).mp ran
  exact ⟨u, .readByte loads read, .setReg (.gpr d) _ nofun nofun⟩

theorem changes_of_loadWord {d : Reg} {k : Space} {a : Word} (loads : i.loadsFromMemory = true)
    (sp : d = .sp → i.writesSp = true) (pc : d = .pc → i.transfersControl = true)
    (ran : loadWord s d k a = .next t) : Changes i s t := by
  obtain ⟨v, u, read, rfl⟩ := (loadWord_next_iff s t d k a).mp ran
  exact ⟨u, .readWord loads read, .setReg d v sp pc⟩

theorem changes_of_storeByte {k : Space} {a v : Word} (stores : i.storesToMemory = true)
    (ran : storeByte s v k a = .next t) : Changes i s t := by
  obtain ⟨u, written, rfl⟩ := (storeByte_next_iff s t v k a).mp ran
  exact ⟨u, .writeByte stores written, .registers _ _ _ _ (.inl rfl)⟩

theorem changes_of_storeWord {k : Space} {a v : Word} (stores : i.storesToMemory = true)
    (ran : storeWord s v k a = .next t) : Changes i s t := by
  obtain ⟨u, written, rfl⟩ := (storeWord_next_iff s t v k a).mp ran
  exact ⟨u, .writeWord stores written, .registers _ _ _ _ (.inl rfl)⟩

theorem changes_of_memAlu {f : Word → Word → Word × Flags} {d : Gpr} {b : Reg} {n : BitVec 7}
    (loads : i.loadsFromMemory = true) (flags : i.changesFlags = true) (ran : memAlu f d b n s = .next t) :
    Changes i s t := by
  obtain ⟨m, u, read, rfl⟩ := (memAlu_next_iff f d b n s t).mp ran
  exact ⟨u, .readWord loads read, .registers _ _ _ _ (.inr flags)⟩

theorem changes_of_incMem {r : Gpr} {a delta : Word} (loads : i.loadsFromMemory = true)
    (stores : i.storesToMemory = true) (flags : i.changesFlags = true) (ran : incMem r a delta s = .next t) :
    Changes i s t := by
  obtain ⟨m, u, read, v, written, rfl⟩ := (incMem_next_iff r a delta s t).mp ran
  exact ⟨v, (BusChange.readWord loads read).trans (.writeWord stores written),
    .registers _ _ _ _ (.inr flags)⟩

theorem changes_of_pushWordOp {v : Word} (stores : i.storesToMemory = true) (writes : i.writesSp = true)
    (ran : pushWordOp s v = .next t) : Changes i s t := by
  obtain ⟨u, written, rfl⟩ := (pushWordOp_next_iff s t v).mp ran
  exact ⟨u, .writeWord stores written, .setSp u _ writes⟩

theorem changes_of_pop {r : Gpr} (ran : exec (.pop r) s = .next t) : Changes (.pop r) s t := by
  obtain ⟨v, u, read, rfl⟩ := (execPop_next_iff r s t).mp ran
  exact ⟨u, .readWord rfl read, .of_sameSystem ⟨rfl, rfl, rfl, rfl, rfl, rfl, rfl, rfl⟩ (.inr ⟨rfl, _, rfl⟩) (.inl rfl)
    (.inl rfl)⟩

theorem changes_of_ls5r {r : Gpr} (ran : exec (.ls5r r) s = .next t) : Changes (.ls5r r) s t := by
  obtain ⟨v5, u, read5, v, w, read, rfl⟩ := (execLs5r_next_iff r s t).mp ran
  exact ⟨w, (BusChange.readWord rfl read5).trans (.readWord rfl read),
    .registers _ _ _ _ (.inl rfl)⟩

theorem changes_of_ss5r {r : Gpr} (ran : exec (.ss5r r) s = .next t) : Changes (.ss5r r) s t := by
  obtain ⟨u, written5, w, written, rfl⟩ := (execSs5r_next_iff r s t).mp ran
  exact ⟨w, (BusChange.writeWord rfl written5).trans (.writeWord rfl written),
    .registers _ _ _ _ (.inl rfl)⟩

theorem changes_of_swi {k : BitVec 6} (ran : exec (.swi k) s = .next t) : Changes (.swi k) s t := by
  obtain ⟨u, written, rfl⟩ := (State.interruptEntry_next_iff s t (swiVector k) s.pc).mp ran
  exact ⟨u, .writeWord rfl written, (CpuChange.setPc u _ rfl).setIe false (.inr (.inr (.inr ⟨k, rfl⟩)))⟩

theorem changes_of_reti (ran : exec .reti s = .next t) : Changes .reti s t := by
  obtain ⟨v, u, read, rfl⟩ := (State.interruptReturn_next_iff s t).mp ran
  exact ⟨u, .readWord rfl read, (CpuChange.setPc u v rfl).setIe (v.getLsbD 0) (.inr (.inr (.inl rfl)))⟩

theorem CpuChange.advance (i : Instr) (s : State) : CpuChange i s s.advance :=
  .registers _ _ _ _ (.inl rfl)

theorem changes_of_setIe {b : Bool} (allowed : i = .di ∨ i = .ei)
    (ran : (.next (s.advance.setIe b) : Result) = .next t) : Changes i s t := by
  obtain rfl := (next_eq_next_iff _ _).mp ran
  exact .alone ((CpuChange.advance i s).setIe b (allowed.imp_right .inl))

theorem changes_of_msr {n : Gpr} {q : Reg} (ran : exec (.msr n q) s = .next t) : Changes (.msr n q) s t := by
  obtain ⟨k, -, rfl⟩ := (execMsr_next_iff n q s t).mp ran
  exact .alone { CpuChange.advance (.msr n q) s with sels := .inr ⟨n, q, rfl⟩ }

theorem changes_of_mrs {d n : Gpr} (ran : exec (.mrs d n) s = .next t) : Changes (.mrs d n) s t := by
  obtain ⟨k, -, rfl⟩ := (execMrs_next_iff d n s t).mp ran
  exact .alone (.setReg (.gpr d) _ nofun nofun)

/-- mf2 keeps of the requests those whose bit in r2 is 1 (R174). -/
theorem exec_mf2 (s : State) :
    exec .mf2 s = .next (((s.advance.setMask ((s.gpr .r2).extractLsb' 10 6)).setReq
      (s.req &&& (s.gpr .r2).extractLsb' 4 6)).setFlags (flagsOfWord (s.gpr .r2))) := rfl

theorem changes_of_mf2 (ran : exec .mf2 s = .next t) : Changes .mf2 s t := by
  obtain rfl := (next_eq_next_iff _ _).mp (exec_mf2 s ▸ ran)
  have clears : ∀ k, (s.req &&& (s.gpr .r2).extractLsb' 4 6).getLsbD k = true → s.req.getLsbD k = true := by
    intro k kept
    rw [BitVec.getLsbD_and, Bool.and_eq_true] at kept
    exact kept.1
  exact .alone { CpuChange.advance .mf2 s with
    mask := .inr rfl
    req := .inr ⟨rfl, clears⟩
    flags := nofun }

theorem changes_of_stc (ran : exec .stc s = .next t) : Changes .stc s t := by
  obtain rfl := (next_eq_next_iff _ _).mp ran
  exact .alone (.registers s _ _ _ (.inr rfl))

theorem changes_of_addSp {b : Reg} {n : BitVec 7} (ran : exec (.addSp b n) s = .next t) : Changes (.addSp b n) s t := by
  obtain rfl := (next_eq_next_iff _ _).mp ran
  exact .alone (.setSp s _ rfl)

theorem changes_of_last {k : BitVec 6} (ran : exec (.last k) s = .next t) : Changes (.last k) s t := by
  obtain rfl := (next_eq_next_iff _ _).mp ran
  exact .alone (.of_sameSystem ⟨rfl, rfl, rfl, rfl, rfl, rfl, rfl, rfl⟩ (.inr ⟨rfl, _, rfl⟩) (.inr ⟨rfl, _, rfl⟩)
    (.inl rfl))

theorem changes_of_addu {d : Reg} {n : BitVec 9} (ran : exec (.addu d n) s = .next t) : Changes (.addu d n) s t := by
  cases d with
  | gpr d => exact changes_of_aluResult rfl ran
  | sp =>
    obtain rfl := (next_eq_next_iff _ _).mp ran
    exact .alone (.setReg .sp _ (fun _ => rfl) nofun)
  | pc =>
    obtain rfl := (next_eq_next_iff _ _).mp ran
    exact .alone (.setReg .pc _ nofun fun _ => rfl)

end Shapes

/-- Whatever instruction completes changes only what it may: one shape per kind of meaning. -/
theorem exec_changes {i : Instr} {s t : State} (ran : exec i s = .next t) : Changes i s t := by
  cases i with
  | andImm _ _ | orImm _ _ | xorImm _ _ | adcz _ | addImm _ _ _ | neg _ | addReg _ _ | adcReg _ _ | subReg _ _
  | sbbReg _ _ | andReg _ _ | orReg _ _ | xorReg _ _ | sac _ _ _ | cadd24 | csub34 =>
    exact changes_of_aluResult rfl ran
  | srReg _ _ | slReg _ _ | asrReg _ _ | rlReg _ _ | rrReg _ _ | srImm _ _ | slImm _ _ | asrImm _ _ | rlImm _ _ =>
    exact changes_of_aluResult rfl ran
  | add22adc33 | cadd24adc3z => exact changes_of_two_registers rfl ran
  | cmpImm _ _ | cmpReg _ _ => exact changes_of_flagsResult rfl ran
  | zxt _ | sxt _ | cpl _ | lurpc _ _ | li _ _ | mov _ _ | m2f => exact changes_of_plainResult ran
  | addu _ _ => exact changes_of_addu ran
  | addSp _ _ => exact changes_of_addSp ran
  | stc => exact changes_of_stc ran
  | mf2 => exact changes_of_mf2 ran
  | jc _ | jz _ | js _ | jleu _ | jl _ | jle _ | jo _ | jno _ | jnc _ | jnz _ | jns _ | jgu _ | jge _ | jg _ =>
    exact changes_of_jumpIf rfl ran
  | j _ | addPc _ _ => exact changes_of_setPc rfl ran
  | jal _ | addPcLink _ _ => exact changes_of_link rfl ran
  | last _ => exact changes_of_last ran
  | lbImm _ _ _ | lbReg _ _ _ => exact changes_of_loadByte rfl ran
  | lwImm d _ _ | lwReg d _ _ =>
    exact changes_of_loadWord rfl (by rintro rfl; rfl) (by rintro rfl; rfl) ran
  | sbImm _ _ _ | sbReg _ _ _ => exact changes_of_storeByte rfl ran
  | swImm _ _ _ | swReg _ _ _ => exact changes_of_storeWord rfl ran
  | addm _ _ _ => exact changes_of_memAlu (f := fun a m => addFlags a m false) rfl rfl ran
  | subm _ _ _ => exact changes_of_memAlu (f := fun a m => subFlags a m false) rfl rfl ran
  | incmInd _ | decmInd _ | dincmInd _ | ddecmInd _ | incmSp _ _ | decmSp _ _ | dincmSp _ _ | ddecmSp _ _ =>
    exact changes_of_incMem rfl rfl rfl ran
  | pushImm _ | pushReg _ => exact changes_of_pushWordOp rfl rfl ran
  | pop _ => exact changes_of_pop ran
  | ls5r _ => exact changes_of_ls5r ran
  | ss5r _ => exact changes_of_ss5r ran
  | swi _ => exact changes_of_swi ran
  | reti => exact changes_of_reti ran
  | di => exact changes_of_setIe (.inl rfl) ran
  | ei => exact changes_of_setIe (.inr rfl) ran
  | msr _ _ => exact changes_of_msr ran
  | mrs _ _ => exact changes_of_mrs ran
  | reservedIncm _ _ | reservedSwSp _ | reservedLiSp _ | reservedSs5r _ | reservedDincmSp _ _ | reservedMrs _
  | reservedSr _ | reservedSl _ _ | reservedAsr _ | reservedRl _ | reservedHlt _ | reservedRegReg _ _ _ _ _ => cases ran

/-! ### The claims about writers -/

theorem BusChange.registers {i : Instr} {s u : State} (bus : BusChange i s u) :
    u.sp = s.sp ∧ u.pc = s.pc ∧ u.flags = s.flags ∧ u.advance.pc = s.advance.pc := by
  rw [bus.eq]
  exact ⟨rfl, rfl, rfl, rfl⟩

theorem BusChange.system {i : Instr} {s u : State} (bus : BusChange i s u) :
    u.ie = s.ie ∧ u.sels = s.sels ∧ u.mask = s.mask ∧ u.req = s.req ∧ u.platform = s.platform ∧
      u.irqEvents = s.irqEvents := by
  rw [bus.eq]
  exact ⟨rfl, rfl, rfl, rfl, rfl, rfl⟩

/-- Settles O11: the bus leaves the system state, and the CPU phase says who writes it. -/
theorem systemStateWriters : Obligations.SystemStateWriters := by
  intro i s t ran
  obtain ⟨u, bus, cpu⟩ := exec_changes ran
  obtain ⟨ie, sels, mask, req, platform, irqEvents⟩ := bus.system
  obtain ⟨-, -, same_platform, same_events⟩ := cpu.outside
  exact ⟨ie ▸ cpu.ie, sels ▸ cpu.sels, mask ▸ cpu.mask, req ▸ cpu.req, same_platform.trans platform,
    same_events.trans irqEvents⟩

/-- Settles O12: memory and the record of the devices are the bus phase's, sp is the CPU phase's. -/
theorem memoryAndSpWriters : Obligations.MemoryAndSpWriters := by
  intro i s t ran
  obtain ⟨u, bus, cpu⟩ := exec_changes ran
  obtain ⟨sp, -⟩ := bus.registers
  obtain ⟨mem, busLog, -, -⟩ := cpu.outside
  exact ⟨fun no => mem.trans (bus.mem no), fun no => (cpu.sp no).trans sp,
    fun no_load no_store => busLog.trans (bus.busLog no_load no_store)⟩

/-- Settles O13: flags and pc are the CPU phase's. -/
theorem flagsAndPcWriters : Obligations.FlagsAndPcWriters := by
  intro i s t ran
  obtain ⟨u, bus, cpu⟩ := exec_changes ran
  obtain ⟨-, -, flags, next⟩ := bus.registers
  exact ⟨fun no => (cpu.flags no).trans flags, fun no => advanced_of_pc ((cpu.pc no).trans next)⟩

/-! ### The invariant -/

/-- An instruction that completes keeps the invariant; pc it leaves even from any state. -/
theorem exec_inv {i : Instr} {s t : State} (ran : exec i s = .next t) (inv : s.Inv) : t.Inv := by
  obtain ⟨u, bus, cpu⟩ := exec_changes ran
  obtain ⟨-, sp_even, mem_wf⟩ := inv
  obtain ⟨sp, -⟩ := bus.registers
  exact ⟨cpu.pc_even, cpu.sp_even (sp ▸ sp_even), cpu.outside.1 ▸ bus.mem_wf mem_wf⟩

theorem State.inv_of_same {s t : State} (pc : t.pc = s.pc) (sp : t.sp = s.sp) (mem : t.mem = s.mem) (inv : s.Inv) :
    t.Inv := by
  rwa [State.Inv, pc, sp, mem]

theorem State.latchIrq_inv {s : State} (inv : s.Inv) : s.latchIrq.Inv := by
  obtain ⟨-, sp, pc, -, -, -, -, mem, -⟩ := s.latchIrq_frame
  exact State.inv_of_same pc sp mem inv

/-- Taking a hardware interrupt is what swi 31 does (R316, R317). -/
theorem exec_swi_irq (s : State) : exec (.swi 31) s = s.interruptEntry irqVector s.pc := rfl

/-- Settles O10: latching and fetching touch none of the three, interrupt entry is what swi 31 does, and every
instruction keeps them. -/
theorem invariantKept : Obligations.InvariantKept := by
  intro s t inv stepped
  have latched := State.latchIrq_inv inv
  obtain ⟨-, entered⟩ | ⟨-, w, u, fetched, ran⟩ := step_next_cases s t stepped
  · exact exec_inv (exec_swi_irq s.latchIrq ▸ entered) latched
  · obtain ⟨l, rfl⟩ := State.fetch_ok fetched
    exact exec_inv ran latched

end Sys2Proof.Machine

/-! The words of memory (R52, R56, R58, R60): the two bytes of a word at an even address lie next to each other in one
block, and what a read gives depends on the platform, the selectors, the devices' record and these two bytes only. -/

namespace Sys2Proof.Machine

/-! ### Even addresses -/

theorem even_iff_toNat (a : Word) : a.getLsbD 0 = false ↔ a.toNat % 2 = 0 := by
  rw [BitVec.getLsbD, Nat.testBit_zero, decide_eq_false_iff_not]
  omega

/-- The byte after an even address lies in the same quarter, one further. -/
theorem toNat_succ_of_even {a : Word} (even : a.getLsbD 0 = false) :
    (a + 1).toNat / 16384 = a.toNat / 16384 ∧ (a + 1).toNat % 16384 = a.toNat % 16384 + 1 := by
  have halves := (even_iff_toNat a).mp even
  have succ : (a + 1).toNat = a.toNat + 1 := by
    have := a.isLt
    rw [BitVec.toNat_add]
    exact Nat.mod_eq_of_lt (by show a.toNat + 1 < 65536; omega)
  omega

theorem selIndex_succ_of_even {sp : Space} {a : Word} (even : a.getLsbD 0 = false) :
    selIndex sp (a + 1) = selIndex sp a := by
  have code : (selIndex .code (a + 1)).val = (selIndex .code a).val := by
    rw [selIndex_code_val, selIndex_code_val, (toNat_succ_of_even even).1]
  cases sp with
  | code => exact Fin.ext code
  | data => exact Fin.ext (by rw [selIndex_data_val, selIndex_data_val, code])

/-- The two bytes of a word lie next to each other in one block. -/
theorem State.translate_succ_toNat (s : State) (sp : Space) {a : Word} (even : a.getLsbD 0 = false) :
    (s.translate sp (a + 1)).toNat = (s.translate sp a).toNat + 1 := by
  rw [State.translate_toNat, State.translate_toNat, selIndex_succ_of_even even, (toNat_succ_of_even even).2,
    Nat.add_assoc]

theorem State.translate_succ_ne (s : State) (sp : Space) {a : Word} (even : a.getLsbD 0 = false) :
    s.translate sp a ≠ s.translate sp (a + 1) := fun same => by
  have := s.translate_succ_toNat sp even
  rw [← same] at this
  omega

/-- Even addresses have even physical addresses. -/
theorem State.translate_even (s : State) (sp : Space) {a : Word} (even : a.getLsbD 0 = false) :
    (s.translate sp a).toNat % 2 = 0 := by
  have := (even_iff_toNat a).mp even
  rw [State.translate_toNat]
  omega

/-- Words whose low bytes share a physical address are the same word. -/
theorem State.translate_succ_congr {s : State} {k sp : Space} {a b : Word} (ha : a.getLsbD 0 = false)
    (hb : b.getLsbD 0 = false) (same : s.translate k b = s.translate sp a) :
    s.translate k (b + 1) = s.translate sp (a + 1) :=
  BitVec.eq_of_toNat_eq (by rw [s.translate_succ_toNat k hb, s.translate_succ_toNat sp ha, same])

/-- Words whose low bytes have different physical addresses share no byte. -/
theorem State.translate_disjoint {s : State} {k sp : Space} {a b : Word} (ha : a.getLsbD 0 = false)
    (hb : b.getLsbD 0 = false) (ne : s.translate k b ≠ s.translate sp a) :
    s.translate k b ∉ s.wordBytes sp a ∧ s.translate k (b + 1) ∉ s.wordBytes sp a := by
  have even_a := s.translate_even sp ha
  have even_b := s.translate_even k hb
  have succ_a := s.translate_succ_toNat sp ha
  have succ_b := s.translate_succ_toNat k hb
  have ne_nat : (s.translate k b).toNat ≠ (s.translate sp a).toNat := fun same => ne (BitVec.eq_of_toNat_eq same)
  simp only [State.wordBytes, List.mem_cons, List.not_mem_nil, or_false, ← BitVec.toNat_inj]
  omega

/-! ### Bytes and words put to memory -/

theorem State.byteAt_putByte_same (s : State) (sp : Space) (a : Word) (v : Byte) :
    (s.putByte sp a v).byteAt (s.translate sp a) = v := by
  rw [State.byteAt_putByte, if_pos rfl]

theorem sameBytes_putByte (s : State) (sp : Space) (a : Word) (v : Byte) :
    SameBytes s (s.putByte sp a v) [s.translate sp a] := fun p other => by
  rw [State.byteAt_putByte, if_neg (List.ne_of_not_mem_cons other)]

theorem sameBytes_putWord (s : State) (sp : Space) (a v : Word) :
    SameBytes s (s.putWord sp a v) (s.wordBytes sp a) := by
  intro p other
  simp only [State.wordBytes, List.mem_cons, List.not_mem_nil, or_false, not_or] at other
  obtain ⟨not_lo, not_hi⟩ := other
  rw [State.byteAt_putWord, if_neg not_hi, if_neg not_lo]

/-- The halves of a word that was put, at its two bytes. -/
theorem State.byteAt_putWord_halves (s : State) (sp : Space) {a : Word} (v : Word) (even : a.getLsbD 0 = false) :
    (s.putWord sp a v).byteAt (s.translate sp a) = v.extractLsb' 0 8 ∧
      (s.putWord sp a v).byteAt (s.translate sp (a + 1)) = v.extractLsb' 8 8 := by
  rw [State.byteAt_putWord, State.byteAt_putWord, if_neg (s.translate_succ_ne sp even), if_pos rfl, if_pos rfl]
  exact ⟨rfl, rfl⟩

/-- A word that was put reads back. -/
theorem State.wordAt_putWord (s : State) (sp : Space) {a : Word} (v : Word) (even : a.getLsbD 0 = false) :
    (s.putWord sp a v).wordAt sp a = v := by
  obtain ⟨lo, hi⟩ := s.byteAt_putWord_halves sp v even
  rw [State.wordAt, State.translate_putWord, State.translate_putWord, lo, hi]
  exact (eq_append_extractLsb' (n := 8) (m := 8) v).symm

theorem State.wordAt_toNat (s : State) (sp : Space) (a : Word) :
    (s.wordAt sp a).toNat = (s.byteAt (s.translate sp (a + 1))).toNat * 256 + (s.byteAt (s.translate sp a)).toNat := by
  rw [State.wordAt, BitVec.toNat_append, ← Nat.shiftLeft_add_eq_or_of_lt (BitVec.isLt _), Nat.shiftLeft_eq]

theorem extractLsb'_bytes_toNat (v : Word) :
    (v.extractLsb' 0 8).toNat = v.toNat % 256 ∧ (v.extractLsb' 8 8).toNat = v.toNat / 256 := by
  have small := v.isLt
  rw [BitVec.extractLsb'_toNat, BitVec.extractLsb'_toNat, Nat.shiftRight_zero, Nat.shiftRight_eq_div_pow]
  exact ⟨rfl, Nat.mod_eq_of_lt (by omega)⟩

/-- Settles O19: the primitives where memory answers, and the two bytes of a word beside each other. -/
theorem memoryPrimitives : Obligations.MemoryPrimitives := by
  intro s sp a v x
  refine ⟨State.readByte_of_readable, fun writable => ?writeByte, s.translate_succ_toNat sp, fun can => ?readWord,
    fun can => ?writeWord, fun odd => ⟨s.readWord_odd sp a odd, s.writeWord_odd sp a v odd⟩⟩
  case writeByte =>
    exact ⟨_, State.writeByte_of_writable x writable, s.byteAt_putByte_same sp a x, sameBytes_putByte s sp a x⟩
  case readWord =>
    exact ⟨_, State.readWord_of_can can, s.wordAt_toNat sp a⟩
  case writeWord =>
    obtain ⟨even, -, -⟩ := (s.canWriteWord_iff sp a).mp can
    obtain ⟨lo, hi⟩ := s.byteAt_putWord_halves sp v even
    obtain ⟨low, high⟩ := extractLsb'_bytes_toNat v
    exact ⟨_, State.writeWord_of_can v can, by rw [lo, low], by rw [hi, high], sameBytes_putWord s sp a v⟩

/-! ### What a read depends on -/

section Congr
variable {s s' : State} (platform : s'.platform = s.platform) (busLog : s'.busLog = s.busLog)
include platform busLog

theorem State.busRead_congr {p : Phys} (byte : s'.byteAt p = s.byteAt p) :
    s'.busRead p = (s.busRead p).map fun r => (r.1, s'.setBusLog r.2.busLog) := by
  have unchanged : s' = s'.setBusLog s.busLog := by
    rw [← busLog]
    rfl
  unfold State.busRead
  rw [platform]
  cases kindAt s.platform p.toNat with
  | ram | rom _ => exact congrArg Except.ok (Prod.ext byte unchanged)
  | device d =>
    exact congrArg (fun l => Except.ok ((d.answer l ⟨p, .byte, none⟩).extractLsb' 0 8,
      s'.setBusLog ((d.number, ⟨p, .byte, none⟩) :: l))) busLog
  | absent floating =>
    cases floating with
    | none => rfl
    | some v => exact congrArg (fun t => Except.ok (v, t)) unchanged

/-- States with the same platform, selectors and devices' record that hold the same two bytes read the same word. -/
theorem State.readWord_congr (sels : s'.sels = s.sels) {k : Space} {a : Word}
    (lo : s'.byteAt (s.translate k a) = s.byteAt (s.translate k a))
    (hi : s'.byteAt (s.translate k (a + 1)) = s.byteAt (s.translate k (a + 1))) :
    s'.readWord k a = (s.readWord k a).map fun r => (r.1, s'.setBusLog r.2.busLog) := by
  have translate : ∀ b, s'.translate k b = s.translate k b := fun b => by
    rw [State.translate, sels]
    rfl
  have device : ∀ p q, s'.wordDevice p q = s.wordDevice p q := fun p q => by
    rw [State.wordDevice, platform]
    rfl
  unfold State.readWord
  rw [translate, translate, device]
  split
  · rfl
  cases s.wordDevice (s.translate k a) (s.translate k (a + 1)) with
  | some d =>
    exact congrArg (fun l => Except.ok (d.answer l ⟨s.translate k a, .word, none⟩,
      s'.setBusLog ((d.number, ⟨s.translate k a, .word, none⟩) :: l))) busLog
  | none =>
    have first : s'.readByte k a = (s.readByte k a).map fun r => (r.1, s'.setBusLog r.2.busLog) := by
      rw [State.readByte, translate]
      exact State.busRead_congr platform busLog lo
    rw [first]
    cases read : s.readByte k a with
    | error f => rfl
    | ok r =>
      obtain ⟨x, u⟩ := r
      obtain ⟨l, rfl⟩ := State.busRead_ok read
      have second : (s'.setBusLog l).readByte k (a + 1) =
          ((s.setBusLog l).readByte k (a + 1)).map fun r => (r.1, s'.setBusLog r.2.busLog) := by
        have here : (s'.setBusLog l).translate k (a + 1) = (s.setBusLog l).translate k (a + 1) := translate (a + 1)
        rw [State.readByte, here]
        exact State.busRead_congr (s := s.setBusLog l) (s' := s'.setBusLog l) platform rfl hi
      dsimp only [Except.map, State.setBusLog_busLog]
      rw [second]
      cases (s.setBusLog l).readByte k (a + 1) with
      | error f => rfl
      | ok r => rfl

end Congr

/-! ### Stored words read back (D16) -/

theorem State.canReadWord_of_canWriteWord {s : State} {sp : Space} {a : Word} (can : s.canWriteWord sp a = true) :
    s.canReadWord sp a = true := by
  obtain ⟨even, lo, hi⟩ := (s.canWriteWord_iff sp a).mp can
  exact (s.canReadWord_iff sp a).mpr ⟨even, State.readable_of_writable lo, State.readable_of_writable hi⟩

/-- A stored word is what a read at any address of the same bytes gives. -/
theorem State.readWord_putWord_same {s : State} {sp k : Space} {a b : Word} (v : Word)
    (can : s.canWriteWord sp a = true) (hb : b.getLsbD 0 = false) (same : s.translate k b = s.translate sp a) :
    (s.putWord sp a v).readWord k b = .ok (v, s.putWord sp a v) ∧
      (s.putWord sp a v).readByte k b = .ok (v.extractLsb' 0 8, s.putWord sp a v) ∧
      (s.putWord sp a v).readByte k (b + 1) = .ok (v.extractLsb' 8 8, s.putWord sp a v) := by
  obtain ⟨ha, lo, hi⟩ := (s.canWriteWord_iff sp a).mp can
  have same_hi := State.translate_succ_congr ha hb same
  obtain ⟨low, high⟩ := s.byteAt_putWord_halves sp v ha
  have readable : (s.putWord sp a v).readable ((s.putWord sp a v).translate k b) = true := by
    rw [State.translate_putWord, same]
    exact State.readable_of_writable lo
  have readable_hi : (s.putWord sp a v).readable ((s.putWord sp a v).translate k (b + 1)) = true := by
    rw [State.translate_putWord, same_hi]
    exact State.readable_of_writable hi
  have word : (s.putWord sp a v).wordAt k b = (s.putWord sp a v).wordAt sp a := by
    simp only [State.wordAt, State.translate_putWord, same, same_hi]
  refine ⟨?_, ?_, ?_⟩
  · rw [State.readWord_of_can ((State.canReadWord_iff _ _ _).mpr ⟨hb, readable, readable_hi⟩), word,
      State.wordAt_putWord s sp v ha]
  · rw [State.readByte_of_readable readable, State.translate_putWord, same, low]
  · rw [State.readByte_of_readable readable_hi, State.translate_putWord, same_hi, high]

/-- Settles O20: addresses of the same bytes read the stored word, and words with other bytes read as before. -/
theorem storeLoadAlias : Obligations.StoreLoadAlias := by
  intro s sp k a b v can
  obtain ⟨ha, -, -⟩ := (s.canWriteWord_iff sp a).mp can
  refine ⟨_, State.writeWord_of_can v can, State.readWord_putWord_same v can, fun hb ne => ?other, fun even same =>
    (State.readWord_putWord_same v can even same).1⟩
  obtain ⟨lo, hi⟩ := State.translate_disjoint ha hb ne
  have unchanged := sameBytes_putWord s sp a v
  have congr : (s.putWord sp a v).readWord k b =
      (s.readWord k b).map fun r => (r.1, (s.putWord sp a v).setBusLog r.2.busLog) :=
    State.readWord_congr (s := s) (s' := s.putWord sp a v) (k := k) (a := b) rfl rfl rfl (unchanged _ lo)
      (unchanged _ hi)
  refine ⟨fun w u read => ?_, fun f stops => ?_⟩
  · obtain ⟨-, l, rfl⟩ := State.readWord_ok read
    rw [congr, read]
    rfl
  · rw [congr, stops]
    rfl

/-! ### RAM everywhere (log 3) -/

theorem State.ram_answers {s : State} (ram : s.platform = []) (p : Phys) :
    s.readable p = true ∧ s.writable p = true := by
  rw [State.readable, State.writable, ram]
  exact ⟨rfl, rfl⟩

theorem State.ram_canWord {s : State} (ram : s.platform = []) (sp : Space) (a : Word) :
    s.canReadWord sp a = !a.getLsbD 0 ∧ s.canWriteWord sp a = !a.getLsbD 0 := by
  obtain ⟨read_lo, write_lo⟩ := State.ram_answers ram (s.translate sp a)
  obtain ⟨read_hi, write_hi⟩ := State.ram_answers ram (s.translate sp (a + 1))
  rw [State.canReadWord, State.canWriteWord, read_lo, read_hi, write_lo, write_hi, Bool.and_true, Bool.and_true]
  exact ⟨rfl, rfl⟩

/-- Settles O22: an empty platform is RAM at every address. -/
theorem ramAnswersEvenWords : Obligations.RamAnswersEvenWords := by
  refine ⟨rfl, fun s ram sp a => ?_⟩
  obtain ⟨readable, writable⟩ := State.ram_answers ram (s.translate sp a)
  obtain ⟨read, write⟩ := State.ram_canWord ram sp a
  exact ⟨readable, writable, read, write⟩

end Sys2Proof.Machine

/-! Loads and stores (40_loads_stores.md): what a completed bus access leaves to be done, and the frames around it. -/

namespace Sys2Proof.Machine

/-! ### What is left after the bus has answered, whatever answered -/

section Answered
variable {s u : State} {k : Space} {a : Word}

theorem loadByte_of_read {x : Byte} (d : Gpr) (read : s.readByte k a = .ok (x, u)) :
    loadByte s d k a = .next (u.advance.setGpr d (x.setWidth 16)) :=
  (loadByte_next_iff s _ d k a).mpr ⟨x, u, read, rfl⟩

theorem loadWord_of_read {x : Word} (d : Reg) (read : s.readWord k a = .ok (x, u)) :
    loadWord s d k a = .next (u.advance.setReg d x) :=
  (loadWord_next_iff s _ d k a).mpr ⟨x, u, read, rfl⟩

theorem storeByte_of_written {v : Word} (written : s.writeByte k a (v.extractLsb' 0 8) = .ok u) :
    storeByte s v k a = .next u.advance :=
  (storeByte_next_iff s _ v k a).mpr ⟨u, written, rfl⟩

theorem storeWord_of_written {v : Word} (written : s.writeWord k a v = .ok u) :
    storeWord s v k a = .next u.advance :=
  (storeWord_next_iff s _ v k a).mpr ⟨u, written, rfl⟩

end Answered

/-! ### The frames -/

theorem SameSystem.refl (s : State) : SameSystem s s := ⟨rfl, rfl, rfl, rfl, rfl, rfl, rfl⟩

section Frames
variable (s : State)

theorem wroteReg_setGpr (d : Gpr) (v : Word) : WroteReg s (s.advance.setGpr d v) d v s.flags := by
  obtain ⟨t, ran, wrote⟩ := wroteReg_plainResult s d v
  obtain rfl := (next_eq_next_iff _ _).mp ran
  exact wrote

theorem wroteSp_setSp (v : Word) : WroteSp s (s.advance.setSp v) (dropBit0 v) :=
  ⟨rfl, rfl, rfl, advanced_of_pc rfl, fun _ _ => rfl, fun _ _ => rfl, SameSystem.refl s⟩

theorem wentTo_setPc_dropBit0 (v : Word) : WentTo s (s.setPc v) (dropBit0 v) :=
  ⟨rfl, rfl, rfl, rfl, fun _ _ => rfl, fun _ _ => rfl, SameSystem.refl s⟩

theorem wroteFlags_advance : WroteFlags s s.advance s.flags :=
  ⟨rfl, rfl, rfl, advanced_of_pc rfl, fun _ _ => rfl, fun _ _ => rfl, SameSystem.refl s⟩

/-- A word put at an even address changes memory only, reads back, and leaves the other bytes. -/
theorem State.putWord_stores (k : Space) {a : Word} (v : Word) (even : a.getLsbD 0 = false) :
    ∃ m, s.putWord k a v = s.setMem m ∧ (s.setMem m).wordAt k a = v ∧ SameBytes s (s.setMem m) (s.wordBytes k a) :=
  ⟨(s.putWord k a v).mem, rfl, s.wordAt_putWord k v even, sameBytes_putWord s k a v⟩

/-- When only memory has changed, and pc then advances, the frame is that of the bytes that changed. -/
theorem frame_of_stored {s u : State} {bytes : List Phys} (stored : u = s.setMem u.mem) (same : SameBytes s u bytes) :
    u.advance.sp = s.sp ∧ u.advance.flags = s.flags ∧ u.advance.draws = s.draws ∧ Advanced s u.advance ∧
      Frame s u.advance [] bytes := by
  generalize u.mem = m at stored
  subst stored
  exact ⟨rfl, rfl, rfl, advanced_of_pc rfl, fun _ _ => rfl, same, SameSystem.refl s⟩

theorem storedByte_advance (k : Space) (a : Word) (v : Byte) : StoredByte s (s.putByte k a v).advance k a v :=
  ⟨s.byteAt_putByte_same k a v, frame_of_stored rfl (sameBytes_putByte s k a v)⟩

theorem storedWord_advance (k : Space) {a : Word} (v : Word) (even : a.getLsbD 0 = false) :
    StoredWord s (s.putWord k a v).advance k a v :=
  ⟨s.wordAt_putWord k v even, frame_of_stored rfl (sameBytes_putWord s k a v)⟩

end Frames

/-! ### On memory -/

section Memory
variable {s : State} {k : Space} {a : Word}

theorem wroteReg_loadByte (d : Gpr) (can : s.readable (s.translate k a) = true) :
    ∃ t, loadByte s d k a = .next t ∧ WroteReg s t d ((s.byteAt (s.translate k a)).setWidth 16) s.flags :=
  ⟨_, loadByte_of_can d can, wroteReg_setGpr s d _⟩

theorem wroteReg_loadWord (d : Gpr) (can : s.canReadWord k a = true) :
    ∃ t, loadWord s (.gpr d) k a = .next t ∧ WroteReg s t d (s.wordAt k a) s.flags :=
  ⟨_, loadWord_of_can (.gpr d) can, wroteReg_setGpr s d _⟩

theorem wroteSp_loadWord (can : s.canReadWord k a = true) :
    ∃ t, loadWord s .sp k a = .next t ∧ WroteSp s t (s.wordAt k a &&& 0xFFFE) :=
  ⟨_, loadWord_of_can .sp can, wroteSp_setSp s _⟩

theorem wentTo_loadWord (can : s.canReadWord k a = true) :
    ∃ t, loadWord s .pc k a = .next t ∧ WentTo s t (s.wordAt k a &&& 0xFFFE) :=
  ⟨_, loadWord_of_can .pc can, wentTo_setPc_dropBit0 s _⟩

/-- A word loaded into a general register, sp or pc. -/
theorem loadWord_into_each (can : s.canReadWord k a = true) :
    (∀ d, ∃ t, loadWord s (.gpr d) k a = .next t ∧ WroteReg s t d (s.wordAt k a) s.flags) ∧
      (∃ t, loadWord s .sp k a = .next t ∧ WroteSp s t (s.wordAt k a &&& 0xFFFE)) ∧
      ∃ t, loadWord s .pc k a = .next t ∧ WentTo s t (s.wordAt k a &&& 0xFFFE) :=
  ⟨fun d => wroteReg_loadWord d can, wroteSp_loadWord can, wentTo_loadWord can⟩

theorem storedByte_storeByte (v : Word) (can : s.writable (s.translate k a) = true) :
    ∃ t, storeByte s v k a = .next t ∧ StoredByte s t k a (v.extractLsb' 0 8) :=
  ⟨_, storeByte_of_can v can, storedByte_advance s k a _⟩

theorem storedWord_storeWord (v : Word) (can : s.canWriteWord k a = true) :
    ∃ t, storeWord s v k a = .next t ∧ StoredWord s t k a v := by
  obtain ⟨even, -, -⟩ := (s.canWriteWord_iff k a).mp can
  exact ⟨_, storeWord_of_can v can, storedWord_advance s k v even⟩

end Memory

/-! ### Odd addresses (D9) -/

section Odd
variable {s : State} {k : Space} {a : Word} (odd : a.getLsbD 0 = true)
include odd

theorem loadWord_odd (d : Reg) : loadWord s d k a = .fault (.misaligned k a) := by
  rw [loadWord, s.readWord_odd k a odd, andThen_error]

theorem storeWord_odd (v : Word) : storeWord s v k a = .fault (.misaligned k a) := by
  rw [storeWord, s.writeWord_odd k a v odd, andThen_error]

theorem incMem_odd (r : Gpr) (delta : Word) : incMem r a delta s = .fault (.misaligned .data a) := by
  rw [incMem, s.readWord_odd .data a odd, andThen_error]

end Odd

theorem memAlu_odd (f : Word → Word → Word × Flags) {s : State} (d : Gpr) {b : Reg} {i : BitVec 7}
    (odd : (s.eaImm b i).getLsbD 0 = true) : memAlu f d b i s = .fault (.misaligned .data (s.eaImm b i)) := by
  rw [memAlu, s.readWord_odd .data _ odd, andThen_error]

/-- From an even base an odd immediate gives an odd address. -/
theorem getLsbD_zero_add_of_odd {a b : Word} (ha : a.getLsbD 0 = false) (hb : b.getLsbD 0 = true) :
    (a + b).getLsbD 0 = true := by
  rw [BitVec.getLsbD_add (by decide), BitVec.carry_zero, ha, hb]
  rfl

theorem zext_getLsbD_zero (i : BitVec 7) : (zext i).getLsbD 0 = i.getLsbD 0 := by
  rw [zext, BitVec.getLsbD_setWidth]
  rfl

theorem sext_getLsbD_zero (i : BitVec 7) : (sext i).getLsbD 0 = i.getLsbD 0 := by
  rw [sext, BitVec.getLsbD_signExtend]
  rfl

/-- Settles O28: every word access of these instructions is at the address named, and stops there when it is odd. -/
theorem misalignedWordsStop : Obligations.MisalignedWordsStop := by
  intro s
  refine ⟨fun d r b i odd => ?imm, fun d p q odd => ⟨loadWord_odd odd d, storeWord_odd odd (s.x d)⟩,
    fun r odd => ⟨incMem_odd odd r _, incMem_odd odd r _, incMem_odd odd r _, incMem_odd odd r _⟩,
    fun i ⟨pc_even, sp_even, _⟩ odd => ⟨?sp, ?pc⟩⟩
  case imm =>
    exact ⟨loadWord_odd odd d, storeWord_odd odd (s.x d), memAlu_odd (fun a m => addFlags a m false) r odd,
      memAlu_odd (fun a m => subFlags a m false) r odd⟩
  case sp => exact getLsbD_zero_add_of_odd sp_even ((zext_getLsbD_zero i).trans odd)
  case pc => exact getLsbD_zero_add_of_odd (State.npc_even pc_even) ((sext_getLsbD_zero i).trans odd)

end Sys2Proof.Machine

namespace Sys2Proof

/-- Settles O24: both forms are `loadByte` at their address. -/
theorem loadByte : Obligations.LoadByte := fun _ d =>
  ⟨fun _ _ can => Machine.wroteReg_loadByte d can, fun _ _ can => Machine.wroteReg_loadByte d can⟩

/-- Settles O25: both forms are `loadWord` at their address, into each kind of register. -/
theorem loadWord : Obligations.LoadWord := fun _ =>
  ⟨fun _ _ can => Machine.loadWord_into_each can, fun _ _ can => Machine.loadWord_into_each can⟩

/-- Settles O26: both forms are `storeByte` at their address. -/
theorem storeByte : Obligations.StoreByte := fun s r =>
  ⟨fun _ _ can => Machine.storedByte_storeByte (s.gpr r) can, fun _ _ can => Machine.storedByte_storeByte (s.gpr r) can⟩

/-- Settles O27: both forms are `storeWord` at their address. -/
theorem storeWord : Obligations.StoreWord := fun s r =>
  ⟨fun _ _ can => Machine.storedWord_storeWord (s.x r) can, fun _ _ can => Machine.storedWord_storeWord (s.x r) can⟩

end Sys2Proof

/-! The stack (41_stack.md) and the read-modify-write instructions (42_memory_rmw.md) where memory answers. -/

namespace Sys2Proof.Machine

theorem not_mem_pair {α : Type} {x a b : α} (other : x ∉ [a, b]) : x ≠ a ∧ x ≠ b :=
  ⟨List.ne_of_not_mem_cons other, List.ne_of_not_mem_cons (List.not_mem_of_not_mem_cons other)⟩

/-- Two registers written one after the other: each holds its value, the second where they are the same. -/
theorem setGpr_setGpr (s : State) (g h : Gpr) (v w : Word) :
    ((s.setGpr g v).setGpr h w).gpr h = w ∧ (h ≠ g → ((s.setGpr g v).setGpr h w).gpr g = v) ∧
      ∀ r, r ≠ g → r ≠ h → ((s.setGpr g v).setGpr h w).gpr r = s.gpr r := by
  refine ⟨State.setGpr_gpr_same _ h w, fun ne => ?_, fun r ne_g ne_h => ?_⟩
  · rw [State.setGpr_gpr_other _ w ne.symm, State.setGpr_gpr_same]
  · rw [State.setGpr_gpr_other _ w ne_h, State.setGpr_gpr_other _ v ne_g]

/-! ### push and pop -/

/-- A word pushed lies below the old sp, which is lowered to it. -/
theorem pushWordOp_pushes {s : State} (v : Word) (can : s.canWriteWord .data (s.sp - 2) = true) :
    ∃ t, pushWordOp s v = .next t ∧ t.wordAt .data (s.sp - 2) = v ∧ t.sp = s.sp - 2 ∧ t.flags = s.flags ∧
      t.draws = s.draws ∧ Advanced s t ∧ Frame s t [] (s.wordBytes .data (s.sp - 2)) := by
  obtain ⟨even, -, -⟩ := (s.canWriteWord_iff .data (s.sp - 2)).mp can
  have ran := pushWordOp_of_can v can
  obtain ⟨m, stored, word, bytes⟩ := s.putWord_stores .data v even
  rw [stored] at ran
  exact ⟨_, ran, word, dropBit0_of_even even, rfl, rfl, advanced_of_pc rfl, fun _ _ => rfl, bytes, SameSystem.refl s⟩

/-- Settles O29: both forms push their value. -/
theorem pushWords : Obligations.PushWords := fun s can =>
  ⟨fun i => pushWordOp_pushes (sext i) can, fun r => pushWordOp_pushes (s.gpr r) can⟩

/-- Settles O30: the word at an even sp, and sp + 2, which is even too. -/
theorem popRegister : Obligations.PopRegister := by
  intro s r can
  obtain ⟨even, -, -⟩ := (s.canReadWord_iff .data s.sp).mp can
  have raised_even : (s.sp + 2).getLsbD 0 = false := getLsbD_zero_add_of_even even rfl
  exact ⟨_, execPop_of_can r can, State.setGpr_gpr_same _ r _, dropBit0_of_even raised_even, rfl, rfl,
    advanced_of_pc rfl, fun g other => State.setGpr_gpr_other s.advance _ (List.ne_of_not_mem_cons other),
    fun _ _ => rfl, SameSystem.refl s⟩

/-! ### ls5r and ss5r -/

/-- The words at sp and sp + 2 lie apart, whatever the selectors say: their offsets in a block differ. -/
theorem State.translate_add_two_ne (s : State) (k : Space) (a : Word) : s.translate k a ≠ s.translate k (a + 2) := by
  have offset : (a + 2).toNat = (a.toNat + 2) % 65536 := BitVec.toNat_add a 2
  intro same
  have := congrArg BitVec.toNat same
  rw [State.translate_toNat, State.translate_toNat, offset] at this
  omega

/-- A word put at another word's bytes leaves the word. -/
theorem State.wordAt_of_sameBytes {s t : State} {k j : Space} {a b : Word} (sels : t.sels = s.sels)
    (same : SameBytes s t (s.wordBytes j b)) (ha : a.getLsbD 0 = false) (hb : b.getLsbD 0 = false)
    (apart : s.translate k a ≠ s.translate j b) : t.wordAt k a = s.wordAt k a := by
  obtain ⟨lo, hi⟩ := State.translate_disjoint hb ha apart
  have translate : ∀ c, t.translate k c = s.translate k c := fun c => by
    rw [State.translate, sels]
    rfl
  rw [State.wordAt, translate, translate, same _ lo, same _ hi]
  rfl

theorem SameBytes.trans {s t u : State} {xs ys : List Phys} (first : SameBytes s t xs) (second : SameBytes t u ys) :
    SameBytes s u (xs ++ ys) := fun p other => by
  rw [List.mem_append, not_or] at other
  rw [second p other.2, first p other.1]

/-- Two words put beside each other both read back, and only their bytes change. -/
theorem State.putWord_putWord_next (s : State) {k : Space} {a : Word} (v w : Word) (even : a.getLsbD 0 = false)
    (even_hi : (a + 2).getLsbD 0 = false) :
    ∃ u, (s.putWord k a v).putWord k (a + 2) w = u ∧ u = s.setMem u.mem ∧ u.wordAt k a = v ∧ u.wordAt k (a + 2) = w ∧
      SameBytes s u (s.wordBytes k a ++ s.wordBytes k (a + 2)) := by
  have first := s.wordAt_putWord k v even
  have apart : (s.putWord k a v).translate k a ≠ (s.putWord k a v).translate k (a + 2) := s.translate_add_two_ne k a
  have stored : s.putWord k a v = s.setMem (s.putWord k a v).mem := rfl
  have bytes : SameBytes s (s.putWord k a v) (s.wordBytes k a) := sameBytes_putWord s k a v
  generalize s.putWord k a v = t at *
  have bytes_hi : SameBytes t (t.putWord k (a + 2) w) (t.wordBytes k (a + 2)) := sameBytes_putWord t k (a + 2) w
  have second := t.wordAt_putWord k w even_hi
  refine ⟨t.putWord k (a + 2) w, rfl, ?_, ?_, second, ?_⟩
  · rw [stored]
    rfl
  · exact (State.wordAt_of_sameBytes (t.putWord_sels k (a + 2) w) bytes_hi even even_hi apart).trans first
  · have same_addresses : t.wordBytes k (a + 2) = s.wordBytes k (a + 2) := by
      rw [stored]
      rfl
    exact bytes.trans (same_addresses ▸ bytes_hi)

/-- Settles O31: two loads, or two stores whose words lie apart. -/
theorem ls5rSs5r : Obligations.Ls5rSs5r := by
  intro s r
  refine ⟨fun lo hi => ?load, fun lo hi => ?store⟩
  case load =>
    obtain ⟨second, first, others⟩ := setGpr_setGpr s.advance .r5 r (s.wordAt .data s.sp) (s.wordAt .data (s.sp + 2))
    exact ⟨_, execLs5r_of_can r lo hi, second, first, rfl, rfl, rfl, advanced_of_pc rfl,
      fun g other => others g (not_mem_pair other).1 (not_mem_pair other).2, fun _ _ => rfl, SameSystem.refl s⟩
  case store =>
    obtain ⟨even, -, -⟩ := (s.canWriteWord_iff .data s.sp).mp lo
    obtain ⟨even_hi, -, -⟩ := (s.canWriteWord_iff .data (s.sp + 2)).mp hi
    obtain ⟨u, is_u, stored, first, second, bytes⟩ := s.putWord_putWord_next (s.gpr .r5) (s.gpr r) even even_hi
    exact ⟨u.advance, is_u ▸ execSs5r_of_can r lo hi, first, second, frame_of_stored stored bytes⟩

/-! ### addm and subm -/

/-- The word goes to r5 and the result, of the old register and the word, to the destination (D22). -/
theorem memAlu_writes (f : Word → Word → Word × Flags) (d : Gpr) {b : Reg} {i : BitVec 7} {s : State}
    (can : s.canReadWord .data (s.eaImm b i) = true) :
    ∃ t, memAlu f d b i s = .next t ∧ t.gpr d = (f (s.gpr d) (s.wordAt .data (s.eaImm b i))).1 ∧
      t.flags = (f (s.gpr d) (s.wordAt .data (s.eaImm b i))).2 ∧
      (d ≠ .r5 → t.gpr .r5 = s.wordAt .data (s.eaImm b i)) ∧ t.sp = s.sp ∧ t.draws = s.draws ∧
      Advanced s t ∧ Frame s t [d, .r5] [] := by
  obtain ⟨result, word, others⟩ := setGpr_setGpr s.advance .r5 d (s.wordAt .data (s.eaImm b i))
    (f (s.gpr d) (s.wordAt .data (s.eaImm b i))).1
  exact ⟨_, memAlu_of_can f d can, result, rfl, word, rfl, rfl, advanced_of_pc rfl,
    fun g other => others g (not_mem_pair other).2 (not_mem_pair other).1, fun _ _ => rfl, SameSystem.refl s⟩

/-- Settles O32: `memAlu` with AddFlags and with SubFlags. -/
theorem addmSubm : Obligations.AddmSubm := fun _ d _ _ can =>
  ⟨memAlu_writes (fun a m => addFlags a m false) d can, memAlu_writes (fun a m => subFlags a m false) d can⟩

/-! ### The incm family -/

/-- What the CPU does in `incMem` once the word `m` is read and its change by `delta` is written: the old word to the
register, Z and S of the new word, two fresh flags. -/
def State.afterIncMem (s u : State) (r : Gpr) (m delta : Word) : State :=
  ((u.advance.setGpr r m).setFlags
    { c := s.freshFlag 0, z := m + delta == 0, s := (m + delta).getLsbD 15, o := s.freshFlag 1 }).drawn 2

theorem incMem_of_answers {s u v : State} {a m : Word} (r : Gpr) (delta : Word)
    (read : s.readWord .data a = .ok (m, u)) (written : u.writeWord .data a (m + delta) = .ok v) :
    incMem r a delta s = .next (s.afterIncMem v r m delta) :=
  (incMem_next_iff r a delta s _).mpr ⟨m, u, read, v, written, rfl⟩

theorem State.afterIncMem_writes (s u : State) (r : Gpr) (m delta : Word) :
    (s.afterIncMem u r m delta).gpr r = m ∧ ((s.afterIncMem u r m delta).flags.z = true ↔ m + delta = 0) ∧
      (s.afterIncMem u r m delta).flags.s = (m + delta).msb ∧ (s.afterIncMem u r m delta).sp = u.sp ∧
      Advanced u (s.afterIncMem u r m delta) ∧ Frame u (s.afterIncMem u r m delta) [r] [] := by
  obtain ⟨zero, sign⟩ := logicFlags_zero_sign (m + delta)
  exact ⟨State.setGpr_gpr_same _ r m, zero, sign, rfl, advanced_of_pc rfl,
    fun g other => State.setGpr_gpr_other u.advance m (List.ne_of_not_mem_cons other), fun _ _ => rfl,
    SameSystem.refl u⟩

/-- On memory the word is changed in place. -/
theorem incMem_changes {s : State} {a : Word} (r : Gpr) (delta : Word) (read : s.canReadWord .data a = true)
    (write : s.canWriteWord .data a = true) :
    ∃ t, incMem r a delta s = .next t ∧ t.wordAt .data a = s.wordAt .data a + delta ∧ t.gpr r = s.wordAt .data a ∧
      (t.flags.z = true ↔ s.wordAt .data a + delta = 0) ∧ t.flags.s = (s.wordAt .data a + delta).msb ∧
      t.sp = s.sp ∧ Advanced s t ∧ Frame s t [r] (s.wordBytes .data a) := by
  obtain ⟨even, -, -⟩ := (s.canReadWord_iff .data a).mp read
  obtain ⟨old, zero, sign, sp, advanced, others, -, system⟩ :=
    s.afterIncMem_writes (s.putWord .data a (s.wordAt .data a + delta)) r (s.wordAt .data a) delta
  exact ⟨_, incMem_of_answers r delta (State.readWord_of_can read) (State.writeWord_of_can _ write),
    s.wordAt_putWord .data _ even, old, zero, sign, sp, advanced, others, sameBytes_putWord s .data a _, system⟩

/-- Settles O33: each of the eight is `incMem` at its address with its delta. -/
theorem incmFamily : Obligations.IncmFamily := by
  intro s r k i a delta listed read write
  simp only [List.mem_cons, List.not_mem_nil, or_false, Prod.mk.injEq] at listed
  obtain ⟨rfl, rfl, rfl⟩ | ⟨rfl, rfl, rfl⟩ | ⟨rfl, rfl, rfl⟩ | ⟨rfl, rfl, rfl⟩ | ⟨rfl, rfl, rfl⟩ | ⟨rfl, rfl, rfl⟩ |
    ⟨rfl, rfl, rfl⟩ | ⟨rfl, rfl, rfl⟩ := listed
  all_goals exact incMem_changes r _ read write

end Sys2Proof.Machine

/-! Loads and stores that devices answer (92_eei_decisions.md D16, D20; logs 4, 31, 32). -/

namespace Sys2Proof.Machine

/-- The low byte of a word, zero-extended. -/
theorem setWidth_extractLsb'_low (v : Word) : (v.extractLsb' 0 8).setWidth 16 = v &&& 0xFF := by
  refine BitVec.eq_of_toNat_eq ?_
  rw [BitVec.toNat_and, show (0xFF : Word).toNat = 2 ^ 8 - 1 from rfl, Nat.and_two_pow_sub_one_eq_mod,
    BitVec.toNat_setWidth, BitVec.extractLsb'_toNat, Nat.shiftRight_zero]
  exact Nat.mod_eq_of_lt (by omega)

/-! ### Bytes -/

section Byte
variable {s : State} {k : Space} {a : Word} {d : Device}
  (device : kindAt s.platform (s.translate k a).toNat = .device d)
include device

theorem State.readByte_of_device :
    s.readByte k a = .ok ((d.answer s.busLog ⟨s.translate k a, .byte, none⟩).extractLsb' 0 8,
      s.deviceSees d ⟨s.translate k a, .byte, none⟩) := State.busRead_of_device device

theorem State.writeByte_of_device (v : Word) :
    s.writeByte k a (v.extractLsb' 0 8) = .ok (s.deviceSees d ⟨s.translate k a, .byte, some (v &&& 0xFF)⟩) := by
  rw [← setWidth_extractLsb'_low]
  exact State.busWrite_of_device (v.extractLsb' 0 8) device

theorem loadByte_of_device (r : Gpr) :
    ∃ t, loadByte s r k a = .next t ∧ t.busLog = (d.number, ⟨s.translate k a, .byte, none⟩) :: s.busLog ∧
      WroteReg (s.deviceSees d ⟨s.translate k a, .byte, none⟩) t r
        ((d.answer s.busLog ⟨s.translate k a, .byte, none⟩) &&& 0xFF) s.flags := by
  rw [← setWidth_extractLsb'_low]
  exact ⟨_, loadByte_of_read r (State.readByte_of_device device), rfl, wroteReg_setGpr (s.deviceSees d _) r _⟩

theorem storeByte_of_device (v : Word) :
    ∃ t, storeByte s v k a = .next t ∧ t.busLog = (d.number, ⟨s.translate k a, .byte, some (v &&& 0xFF)⟩) :: s.busLog ∧
      WroteFlags (s.deviceSees d ⟨s.translate k a, .byte, some (v &&& 0xFF)⟩) t s.flags :=
  ⟨_, storeByte_of_written (State.writeByte_of_device device v), rfl, wroteFlags_advance (s.deviceSees d _)⟩

end Byte

/-! ### Words -/

section Word
variable {s : State} {k : Space} {a : Word} {d : Device} (even : a.getLsbD 0 = false)
  (lo : kindAt s.platform (s.translate k a).toNat = .device d)
  (hi : kindAt s.platform (s.translate k (a + 1)).toNat = .device d)
include even lo hi

/-- A word loaded from a device into a general register, sp or pc. -/
theorem loadWord_of_device :
    (∀ r, ∃ t, loadWord s (.gpr r) k a = .next t ∧
        t.busLog = (d.number, ⟨s.translate k a, .word, none⟩) :: s.busLog ∧
        WroteReg (s.deviceSees d ⟨s.translate k a, .word, none⟩) t r
          (d.answer s.busLog ⟨s.translate k a, .word, none⟩) s.flags) ∧
      (∃ t, loadWord s .sp k a = .next t ∧ t.busLog = (d.number, ⟨s.translate k a, .word, none⟩) :: s.busLog ∧
        WroteSp (s.deviceSees d ⟨s.translate k a, .word, none⟩) t
          (d.answer s.busLog ⟨s.translate k a, .word, none⟩ &&& 0xFFFE)) ∧
      ∃ t, loadWord s .pc k a = .next t ∧ t.busLog = (d.number, ⟨s.translate k a, .word, none⟩) :: s.busLog ∧
        WentTo (s.deviceSees d ⟨s.translate k a, .word, none⟩) t
          (d.answer s.busLog ⟨s.translate k a, .word, none⟩ &&& 0xFFFE) := by
  have read := State.readWord_of_device even lo hi
  exact ⟨fun r => ⟨_, loadWord_of_read (.gpr r) read, rfl, wroteReg_setGpr (s.deviceSees d _) r _⟩,
    ⟨_, loadWord_of_read .sp read, rfl, wroteSp_setSp (s.deviceSees d _) _⟩,
    ⟨_, loadWord_of_read .pc read, rfl, wentTo_setPc_dropBit0 (s.deviceSees d _) _⟩⟩

theorem storeWord_of_device (v : Word) :
    ∃ t, storeWord s v k a = .next t ∧ t.busLog = (d.number, ⟨s.translate k a, .word, some v⟩) :: s.busLog ∧
      WroteFlags (s.deviceSees d ⟨s.translate k a, .word, some v⟩) t s.flags :=
  ⟨_, storeWord_of_written (State.writeWord_of_device v even lo hi), rfl, wroteFlags_advance (s.deviceSees d _)⟩

end Word

/-- A device sees the read and then the write of a word that `incMem` changes. -/
theorem incMem_of_device {s : State} {a : Word} {d : Device} (even : a.getLsbD 0 = false)
    (lo : kindAt s.platform (s.translate .data a).toNat = .device d)
    (hi : kindAt s.platform (s.translate .data (a + 1)).toNat = .device d) (r : Gpr) (delta m : Word) (p : Phys)
    (is_p : p = s.translate .data a) (is_m : m = d.answer s.busLog ⟨p, .word, none⟩) :
    ∃ t, incMem r a delta s = .next t ∧
      t.busLog = (d.number, ⟨p, .word, some (m + delta)⟩) :: (d.number, ⟨p, .word, none⟩) :: s.busLog ∧
      t.gpr r = m ∧ (t.flags.z = true ↔ m + delta = 0) ∧ t.flags.s = (m + delta).msb ∧ t.sp = s.sp ∧
      Advanced s t ∧
      Frame ((s.deviceSees d ⟨p, .word, none⟩).deviceSees d ⟨p, .word, some (m + delta)⟩) t [r] [] := by
  subst is_p is_m
  have written := State.writeWord_of_device (s := s.deviceSees d ⟨s.translate .data a, .word, none⟩) (sp := .data)
    (d.answer s.busLog ⟨s.translate .data a, .word, none⟩ + delta) even lo hi
  exact ⟨_, incMem_of_answers r delta (State.readWord_of_device even lo hi) written, rfl,
    s.afterIncMem_writes _ r _ delta⟩

/-! ### ls5r and ss5r -/

section TwoWords
variable {s : State} {d e : Device} (even : s.sp.getLsbD 0 = false)
  (lo : kindAt s.platform (s.translate .data s.sp).toNat = .device d)
  (lo_hi : kindAt s.platform (s.translate .data (s.sp + 1)).toNat = .device d)
  (hi : kindAt s.platform (s.translate .data (s.sp + 2)).toNat = .device e)
  (hi_hi : kindAt s.platform (s.translate .data (s.sp + 2 + 1)).toNat = .device e)
include even lo lo_hi hi hi_hi

theorem execLs5r_of_devices (r : Gpr) (p q : Phys) (is_p : p = s.translate .data s.sp)
    (is_q : q = s.translate .data (s.sp + 2)) :
    ∃ t, exec (.ls5r r) s = .next t ∧
      t.busLog = (e.number, ⟨q, .word, none⟩) :: (d.number, ⟨p, .word, none⟩) :: s.busLog ∧
      t.gpr r = e.answer ((d.number, ⟨p, .word, none⟩) :: s.busLog) ⟨q, .word, none⟩ ∧
      (r ≠ .r5 → t.gpr .r5 = d.answer s.busLog ⟨p, .word, none⟩) ∧ t.sp = s.sp ∧ t.flags = s.flags ∧
      Advanced s t ∧ Frame ((s.deviceSees d ⟨p, .word, none⟩).deviceSees e ⟨q, .word, none⟩) t [.r5, r] [] := by
  subst is_p is_q
  have even_hi : (s.sp + 2).getLsbD 0 = false := getLsbD_zero_add_of_even even rfl
  have second := State.readWord_of_device (s := s.deviceSees d ⟨s.translate .data s.sp, .word, none⟩) (sp := .data)
    even_hi hi hi_hi
  have ran := (execLs5r_next_iff r s _).mpr ⟨_, _, State.readWord_of_device even lo lo_hi, _, _, second, rfl⟩
  obtain ⟨word, word5, others⟩ := setGpr_setGpr ((s.deviceSees d ⟨s.translate .data s.sp, .word, none⟩).deviceSees e
    ⟨s.translate .data (s.sp + 2), .word, none⟩).advance .r5 r
    (d.answer s.busLog ⟨s.translate .data s.sp, .word, none⟩)
    (e.answer ((d.number, ⟨s.translate .data s.sp, .word, none⟩) :: s.busLog)
      ⟨s.translate .data (s.sp + 2), .word, none⟩)
  exact ⟨_, ran, rfl, word, word5, rfl, rfl, advanced_of_pc rfl,
    fun g other => others g (not_mem_pair other).1 (not_mem_pair other).2, fun _ _ => rfl, SameSystem.refl _⟩

theorem execSs5r_of_devices (r : Gpr) (p q : Phys) (is_p : p = s.translate .data s.sp)
    (is_q : q = s.translate .data (s.sp + 2)) :
    ∃ t, exec (.ss5r r) s = .next t ∧
      t.busLog = (e.number, ⟨q, .word, some (s.gpr r)⟩) :: (d.number, ⟨p, .word, some (s.gpr .r5)⟩) :: s.busLog ∧
      WroteFlags ((s.deviceSees d ⟨p, .word, some (s.gpr .r5)⟩).deviceSees e ⟨q, .word, some (s.gpr r)⟩) t s.flags := by
  subst is_p is_q
  have even_hi : (s.sp + 2).getLsbD 0 = false := getLsbD_zero_add_of_even even rfl
  have second := State.writeWord_of_device (s := s.deviceSees d ⟨s.translate .data s.sp, .word, some (s.gpr .r5)⟩)
    (sp := .data) (s.gpr r) even_hi hi hi_hi
  have ran := (execSs5r_next_iff r s _).mpr ⟨_, State.writeWord_of_device (s.gpr .r5) even lo lo_hi, _, second, rfl⟩
  exact ⟨_, ran, rfl, wroteFlags_advance ((s.deviceSees d _).deviceSees e _)⟩

end TwoWords

/-! ### What the platform fixes -/

/-- The line a device follows is one of its table, for its state and the access. -/
theorem Device.lineFor_spec {d : Device} {state : Nat} {a : Access} {l : DeviceRule}
    (found : d.lineFor state a = some l) :
    l ∈ d.rules ∧ l.state = state ∧ l.access = a := by
  have fits := List.find?_some found
  rw [Bool.and_eq_true, beq_iff_eq, beq_iff_eq] at fits
  exact ⟨List.mem_of_find?_eq_some found, fits⟩

section Regions
variable {s : State} {p : Phys}

theorem State.busWrite_of_rom {ignores : Bool} (v : Byte) (rom : kindAt s.platform p.toNat = .rom ignores) :
    s.busWrite p v = if ignores then .ok s else .error (.romWrite p) := by
  rw [State.busWrite, rom]
  cases ignores <;> rfl

theorem State.bus_of_floating {x : Byte} (v : Byte) (absent : kindAt s.platform p.toNat = .absent (some x)) :
    s.busRead p = .ok (x, s) ∧ s.busWrite p v = .ok s := by
  rw [State.busRead, State.busWrite, absent]
  exact ⟨rfl, rfl⟩

theorem State.bus_of_absent (v : Byte) (absent : kindAt s.platform p.toNat = .absent none) :
    s.busRead p = .error (.absentAddress p) ∧ s.busWrite p v = .error (.absentAddress p) := by
  rw [State.busRead, State.busWrite, absent]
  exact ⟨rfl, rfl⟩

end Regions

/-- Settles O21: the shapes of loads and stores at a device, form by form, and the bus where no device answers. -/
theorem platformBehaviour : Obligations.PlatformBehaviour := by
  refine ⟨?loads_and_stores, ?incm, ?two_words, ?devices, ?regions⟩
  case loads_and_stores =>
    intro s d r b i g q k a p lb lw sb sw listed is_p device
    subst is_p
    simp only [List.mem_cons, List.not_mem_nil, or_false, Prod.mk.injEq] at listed
    obtain ⟨rfl, rfl, rfl, rfl, rfl, rfl⟩ | ⟨rfl, rfl, rfl, rfl, rfl, rfl⟩ := listed
    all_goals
      refine ⟨loadByte_of_device device r, storeByte_of_device device (s.gpr r), fun even hi => ?_⟩
      obtain ⟨into_gpr, into_sp, into_pc⟩ := loadWord_of_device even device hi
      exact ⟨into_gpr r, into_sp, into_pc, fun x => storeWord_of_device even device hi (s.x x)⟩
  case incm =>
    intro s d r n i a delta m p listed even is_p lo hi is_m
    simp only [List.mem_cons, List.not_mem_nil, or_false, Prod.mk.injEq] at listed
    obtain ⟨rfl, rfl, rfl⟩ | ⟨rfl, rfl, rfl⟩ | ⟨rfl, rfl, rfl⟩ | ⟨rfl, rfl, rfl⟩ | ⟨rfl, rfl, rfl⟩ |
      ⟨rfl, rfl, rfl⟩ | ⟨rfl, rfl, rfl⟩ | ⟨rfl, rfl, rfl⟩ := listed
    all_goals exact incMem_of_device even (is_p ▸ lo) hi r _ m p is_p is_m
  case two_words =>
    intro s d e r p q even is_p is_q lo lo_hi hi hi_hi
    rw [is_p] at lo
    rw [is_q] at hi
    exact ⟨execLs5r_of_devices even lo lo_hi hi hi_hi r p q is_p is_q,
      execSs5r_of_devices even lo lo_hi hi hi_hi r p q is_p is_q⟩
  case devices =>
    intro d log a n l
    refine ⟨rfl, d.stateAfter_other a log, fun found => ?_⟩
    obtain ⟨listed, state, access⟩ := Device.lineFor_spec found
    exact ⟨listed, state, access, Device.listed found⟩
  case regions =>
    intro s p v x
    exact ⟨State.busWrite_of_rom v, State.busWrite_of_rom v, State.bus_of_floating v, State.bus_of_absent v⟩

end Sys2Proof.Machine

/-! Interrupt entry and return, IE and the selectors (48_system.md, 60_exceptions.md). -/

namespace Sys2Proof.Machine

/-! ### The word below sp (R315, R271) -/

/-- Dropping bit 0 and putting IE in its place, as a number. -/
theorem savedWord_eq (pc : Word) (ie : Bool) : savedWord pc ie = (pc &&& 0xFFFE) ||| (if ie then 1 else 0) := by
  cases ie <;> rfl

theorem dropBit0_savedWord (v : Word) (b : Bool) : dropBit0 (savedWord v b) = dropBit0 v := by
  have ie_dropped : 0xFFFE#16 &&& (boolBit b).setWidth 16 = 0 := by cases b <;> rfl
  have ones : 0xFFFE#16 &&& 0xFFFE#16 = 0xFFFE#16 := rfl
  rw [dropBit0, savedWord, BitVec.and_comm, BitVec.and_or_distrib_left, ie_dropped, dropBit0, BitVec.and_comm v,
    ← BitVec.and_assoc, ones]
  exact BitVec.or_zero

/-- The saved word holds IE in bit 0, whatever bit 0 of the saved address is. -/
theorem savedWord_getLsbD_zero (pc : Word) (ie : Bool) : (savedWord pc ie).getLsbD 0 = ie := by
  rw [savedWord, BitVec.getLsbD_or, dropBit0_getLsbD_zero]
  cases ie <;> rfl

/-! ### Entry and return -/

theorem SameProgramState.trans {s t u : State} (first : SameProgramState s t) (second : SameProgramState t u) :
    SameProgramState s u := by
  obtain ⟨gprs, sp, flags, sels, platform, busLog, draws⟩ := first
  obtain ⟨gprs', sp', flags', sels', platform', busLog', draws'⟩ := second
  exact ⟨fun g other => (gprs' g other).trans (gprs g other), sp'.trans sp, flags'.trans flags, sels'.trans sels,
    platform'.trans platform, busLog'.trans busLog, draws'.trans draws⟩

/-- What interrupt entry leaves (R315), at any vector and for any saved address. -/
theorem State.interruptEntry_enters {s : State} (vector savedpc : Word)
    (can : s.canWriteWord .data (s.sp - 2) = true) :
    ∃ t, s.interruptEntry vector savedpc = .next t ∧ t.wordAt .data (s.sp - 2) = savedWord savedpc s.ie ∧
      t.ie = false ∧ t.pc = dropBit0 vector ∧ t.mask = s.mask ∧ t.req = s.req ∧ t.irqEvents = s.irqEvents ∧
      SameProgramState s t ∧ SameBytes s t (s.wordBytes .data (s.sp - 2)) := by
  obtain ⟨even, -, -⟩ := (s.canWriteWord_iff .data (s.sp - 2)).mp can
  have ran := State.interruptEntry_of_can vector savedpc can
  obtain ⟨m, stored, word, bytes⟩ := s.putWord_stores .data (savedWord savedpc s.ie) even
  rw [stored] at ran
  exact ⟨_, ran, word, rfl, rfl, rfl, rfl, rfl, ⟨fun _ _ => rfl, rfl, rfl, rfl, rfl, rfl, rfl⟩, bytes⟩

/-- Settles O54: swi is an entry at an even vector. -/
theorem softwareInterrupt : Obligations.SoftwareInterrupt := by
  intro s k can
  obtain ⟨t, ran, saved, ie, pc, frame⟩ := State.interruptEntry_enters (swiVector k) s.pc can
  refine ⟨t, ran, saved.trans (savedWord_eq s.pc s.ie), ie, ?_, frame⟩
  rw [pc, swiVector, dropBit0_of_even (byteDistance_even k)]
  exact byteDistance_eq_ofInt k

/-- Settles O55: the state that `interruptReturn` gives where memory answers. -/
theorem interruptReturn : Obligations.InterruptReturn := fun _ can =>
  ⟨_, State.interruptReturn_of_can can, rfl, rfl, rfl, rfl, rfl, ⟨fun _ _ => rfl, rfl, rfl, rfl, rfl, rfl, rfl⟩,
    fun _ _ => rfl⟩

theorem State.canReadWord_congr {s t : State} (sels : t.sels = s.sels) (platform : t.platform = s.platform) (k : Space)
    (a : Word) : t.canReadWord k a = s.canReadWord k a := by
  have translate : ∀ b, t.translate k b = s.translate k b := fun b => by
    rw [State.translate, sels]
    rfl
  rw [State.canReadWord, translate, translate, State.readable, State.readable, platform]
  rfl

/-- Settles O56: reti reads back the word that the entry put below sp. -/
theorem entryThenReturn : Obligations.EntryThenReturn := by
  intro s vector even can
  obtain ⟨t, entered, saved, -, -, mask, req, events, same, bytes⟩ :=
    State.interruptEntry_enters vector s.pc can
  have ⟨_, sp, _, sels, platform, _⟩ := same
  have readable : t.canReadWord .data (t.sp - 2) = true := by
    rw [sp, State.canReadWord_congr sels platform, State.canReadWord_of_canWriteWord can]
  obtain ⟨u, returned, ie', pc', mask', req', events', same', bytes'⟩ := interruptReturn t readable
  rw [sp, saved] at ie' pc'
  refine ⟨t, u, entered, returned, ?pc, ie'.trans (savedWord_getLsbD_zero s.pc s.ie), mask'.trans mask,
    req'.trans req, events'.trans events, same.trans same', fun p other => (bytes' p nofun).trans (bytes p other)⟩
  case pc => exact (pc'.trans (dropBit0_savedWord s.pc s.ie)).trans (dropBit0_of_even even)

/-! ### di and ei -/

/-- Settles O57: the decoder's rows, and IE written. -/
theorem disableEnable : Obligations.DisableEnable := by
  refine ⟨fun x => ⟨decodeWord_di x, decodeWord_ei x⟩, fun s i b listed => ?_⟩
  simp only [List.mem_cons, List.not_mem_nil, or_false, Prod.mk.injEq] at listed
  obtain ⟨rfl, rfl⟩ | ⟨rfl, rfl⟩ := listed
  all_goals exact ⟨_, rfl, rfl, rfl, rfl, rfl, advanced_of_pc rfl,
    ⟨fun _ _ => rfl, rfl, rfl, rfl, rfl, rfl, rfl⟩, fun _ _ => rfl⟩

/-! ### The selectors (D12) -/

theorem selectorNumber_of_lt {n : Word} {k : Fin 8} (number : n.toNat = k.val) : selectorNumber n = some k := by
  obtain ⟨k, k_lt⟩ := k
  subst number
  exact dif_pos k_lt

theorem selectorNumber_of_ge {n : Word} (large : 8 ≤ n.toNat) : selectorNumber n = none :=
  dif_neg (Nat.not_lt.mpr large)

/-- Settles O58: the selector that the number names is written or read; there is none above 7. -/
theorem selectorAccess : Obligations.SelectorAccess := by
  intro s n d q
  refine ⟨fun k number => ?named, fun large => ?reserved⟩
  case named =>
    have named := selectorNumber_of_lt number
    refine ⟨⟨_, (execMsr_next_iff n q s _).mpr ⟨k, named, rfl⟩, fun j => Selectors.get_set s.sels j k _, rfl, rfl, rfl,
      rfl, rfl, rfl, rfl, rfl, rfl, advanced_of_pc rfl, fun _ _ => rfl, fun _ _ => rfl⟩, ?_⟩
    rw [BitVec.ofNat_toNat]
    exact ⟨_, (execMrs_next_iff d n s _).mpr ⟨k, named, rfl⟩, wroteReg_setGpr s d _⟩
  case reserved =>
    have none := selectorNumber_of_ge large
    constructor
    · change execMsr n q s = _
      rw [execMsr, none]
    · change execMrs d n s = _
      rw [execMrs, none]

end Sys2Proof.Machine

/-! The execution cycle (00_scope.md R13): latching, interrupt entry, fetch; and the state after reset. -/

namespace Sys2Proof.Machine

/-! ### Latching the edges of a boundary (R313) -/

theorem State.latchIrq_eq (s : State) :
    s.latchIrq = { s with req := s.req ||| s.irqEvents.headD 0, irqEvents := s.irqEvents.tail } := by
  obtain ⟨none, latched⟩ | ⟨e, rest, some, latched⟩ := s.latchIrq_cases
  · have kept : s.req ||| s.irqEvents.headD 0 = s.req := by
      rw [none]
      exact BitVec.or_zero
    rw [latched, kept, none]
    exact congrArg (fun l => { s with irqEvents := l }) none
  · rw [latched, some]
    rfl

theorem State.latchIrq_req (s : State) : s.latchIrq.req = s.req ||| s.irqEvents.headD 0 := by rw [s.latchIrq_eq]

theorem State.latchIrq_irqEvents (s : State) : s.latchIrq.irqEvents = s.irqEvents.tail := by rw [s.latchIrq_eq]

/-- Latching changes nothing that a program sees, and no byte. -/
theorem State.latchIrq_sameProgramState (s : State) : SameProgramState s s.latchIrq ∧ SameBytes s s.latchIrq [] := by
  rw [s.latchIrq_eq]
  exact ⟨⟨fun _ _ => rfl, rfl, rfl, rfl, rfl, rfl, rfl⟩, fun _ _ => rfl⟩

theorem State.gpr_latchIrq (s : State) (g : Gpr) : s.latchIrq.gpr g = s.gpr g := by
  rw [s.latchIrq_eq]
  rfl

/-- A fetch reads the same word before and after latching. -/
theorem State.fetch_latchIrq (s : State) :
    s.latchIrq.fetch = s.fetch.map fun r => (r.1, s.latchIrq.setBusLog r.2.busLog) := by
  obtain ⟨-, -, pc, -, -, -, sels, mem, platform, busLog, -⟩ := s.latchIrq_frame
  have byte : ∀ p, s.latchIrq.byteAt p = s.byteAt p := fun p => by
    rw [State.byteAt, mem]
    rfl
  rw [State.fetch, pc]
  exact State.readWord_congr platform busLog sels (byte _) (byte _)

theorem State.canWriteWord_latchIrq (s : State) (k : Space) (a : Word) :
    s.latchIrq.canWriteWord k a = s.canWriteWord k a := by
  rw [s.latchIrq_eq]
  rfl

theorem State.fetch_latchIrq_of_can {s : State} (can : s.canReadWord .code s.pc = true) :
    s.latchIrq.fetch = .ok (s.wordAt .code s.pc, s.latchIrq) := by
  rw [s.fetch_latchIrq, State.fetch_of_can can, s.latchIrq_eq]
  rfl

/-! ### The two kinds of step (R13, R317) -/

theorem stepWith_of_pending (v : IsaVariant) {s : State} (pending : s.latchIrq.irqPending = true) :
    stepWith v s = exec (.swi 31) s.latchIrq := if_pos pending

theorem stepWith_of_quiet (v : IsaVariant) {s : State} (quiet : s.latchIrq.irqPending = false) :
    stepWith v s = andThen s.latchIrq.fetch fun (w, u) => execWord v w u := if_neg (Bool.eq_false_iff.mp quiet)

theorem stepWith_of_fetched (v : IsaVariant) {s u : State} {w : Word} (quiet : s.latchIrq.irqPending = false)
    (fetched : s.latchIrq.fetch = .ok (w, u)) : stepWith v s = execWord v w u := by
  rw [stepWith_of_quiet v quiet, fetched, andThen_ok]

theorem step_of_pending {s : State} (pending : s.latchIrq.irqPending = true) :
    step s = exec (.swi 31) s.latchIrq := stepWith_of_pending .full pending

theorem step_of_fetched {s u : State} {w : Word} (quiet : s.latchIrq.irqPending = false)
    (fetched : s.latchIrq.fetch = .ok (w, u)) : step s = exec (decodeWord w) u :=
  stepWith_of_fetched .full quiet fetched

theorem step_of_unfetched {s : State} {f : Fault} (quiet : s.latchIrq.irqPending = false)
    (stopped : s.latchIrq.fetch = .error f) : step s = .fault f := by
  change stepWith .full s = _
  rw [stepWith_of_quiet .full quiet, stopped, andThen_error]

/-- Settles O5: the two bytes at pc are the word that the fetch reads. -/
theorem stepRunsDecodedInstruction : Obligations.StepRunsDecodedInstruction := by
  refine ⟨fun s i quiet can decoded => ?_, fun s u w quiet fetched => step_of_fetched quiet fetched⟩
  obtain ⟨is_i, -⟩ := Prod.ext_iff.mp (Except.ok.inj decoded)
  rw [step_of_fetched quiet (State.fetch_latchIrq_of_can can)]
  exact congrArg (exec · s.latchIrq) is_i

/-- Settles O6: the entry at vector 0x003E from the latched state, in which IE is 1. -/
theorem stepTakesInterrupt : Obligations.StepTakesInterrupt := by
  intro s pending
  refine ⟨step_of_pending pending, fun can => ?_⟩
  obtain ⟨-, sp, pc, -, mask, ie, sels, -⟩ := s.latchIrq_frame
  have enabled : s.latchIrq.ie = true := (Bool.and_eq_true_iff.mp pending).1
  have same_bytes : s.latchIrq.wordBytes .data (s.sp - 2) = s.wordBytes .data (s.sp - 2) := by
    rw [s.latchIrq_eq]
    rfl
  have can_latched : s.latchIrq.canWriteWord .data (s.latchIrq.sp - 2) = true := by
    rw [sp, s.canWriteWord_latchIrq, can]
  obtain ⟨same_latched, bytes_latched⟩ := s.latchIrq_sameProgramState
  obtain ⟨t, entered, saved, ie_t, pc_t, mask_t, req_t, events_t, same, bytes⟩ :=
    State.interruptEntry_enters irqVector s.latchIrq.pc can_latched
  rw [sp, pc, enabled, savedWord_eq] at saved
  rw [sp, same_bytes] at bytes
  exact ⟨t, (step_of_pending pending).trans entered, saved, ie_t, pc_t, req_t, mask_t.trans mask,
    events_t.trans s.latchIrq_irqEvents, same_latched.trans same,
    fun p other => (bytes p other).trans (bytes_latched p nofun)⟩

/-! ### Requests (D14, D24) -/

/-- An instruction other than mf2 leaves the requests; every one leaves the coming edges. -/
theorem exec_keeps_requests {i : Instr} {s t : State} (ran : exec i s = .next t) :
    t.irqEvents = s.irqEvents ∧ (i ≠ .mf2 → t.req = s.req) := by
  obtain ⟨-, -, -, req, -, events⟩ := systemStateWriters i s t ran
  exact ⟨events, fun other => req.resolve_right fun mf2 => other mf2.1⟩

/-- Settles O7: the word fetched before latching is the one fetched after it, so mf2 is fetched or not in both. -/
theorem edgesAreLatched : Obligations.EdgesAreLatched := by
  intro s t stepped
  rw [← s.latchIrq_irqEvents, ← s.latchIrq_req]
  obtain ⟨pending, entered⟩ | ⟨quiet, w, u, fetched, ran⟩ := step_next_cases s t stepped
  case inl =>
    obtain ⟨events, req⟩ := exec_keeps_requests (i := .swi 31) (exec_swi_irq s.latchIrq ▸ entered)
    exact ⟨events, fun ⟨quiet, _⟩ => absurd (pending.symm.trans quiet) nofun, fun _ => req nofun⟩
  case inr =>
    have fetched_before : ∃ v, s.fetch = .ok (w, v) := by
      rw [s.fetch_latchIrq] at fetched
      cases before : s.fetch with
      | error f => rw [before] at fetched; cases fetched
      | ok r => rw [before] at fetched; cases fetched; exact ⟨r.2, rfl⟩
    obtain ⟨v, before⟩ := fetched_before
    obtain ⟨l, rfl⟩ := State.fetch_ok fetched
    obtain ⟨events, req⟩ := exec_keeps_requests ran
    refine ⟨events, fun ⟨_, w', v', fetched', mf2⟩ => ?_, fun other => ?_⟩
    · obtain ⟨rfl, -⟩ := Prod.ext_iff.mp (Except.ok.inj (before.symm.trans fetched'))
      rw [mf2, exec_mf2] at ran
      obtain rfl := (next_eq_next_iff _ _).mp ran
      exact congrArg (fun v : Word => s.latchIrq.req &&& v.extractLsb' 4 6) (s.gpr_latchIrq .r2)
    · exact req fun mf2 => other ⟨quiet, w, v, before, mf2⟩

/-! ### Reset -/

/-- Settles O9: pc is 0, sp ends in a 0, and the memory is the one given. -/
theorem resetMeetsInvariant : Obligations.ResetMeetsInvariant := by
  have sp_even : ∀ high : BitVec 15, (high ++ 0#1).getLsbD 0 = false := fun high => by
    rw [BitVec.getLsbD_append]
    rfl
  have pc_even : (0 : Word).getLsbD 0 = false := rfl
  exact ⟨⟨pc_even, sp_even 0, reset_mem_wf⟩, fun u _ _ _ wf => ⟨pc_even, sp_even u.spHigh, wf⟩⟩

end Sys2Proof.Machine

/-! Where the machine stops on RAM (60_exceptions.md section 1; D8, D9, D12), and the reserved encodings. -/

namespace Sys2Proof.Machine

/-- A result that stops, if at all, where the spec leaves `i` undefined on RAM: at a word access at an odd address, a
selector number above 7, or `i` itself being reserved. -/
def StopsOnlyUndefined (i : Instr) : Result → Prop
  | .next _ => True
  | .fault f => (∃ sp a, f = .misaligned sp a ∧ a.getLsbD 0 = true) ∨ ∃ n, f = .reservedSelector n ∧ 8 ≤ n.toNat
  | .refused r => i.isReserved = true ∧ r = .reservedEncoding (encode i)

/-! ### Memory on RAM -/

section Ram
variable {s : State} (ram : s.platform = [])
include ram

theorem State.readByte_of_ram (k : Space) (a : Word) : s.readByte k a = .ok (s.byteAt (s.translate k a), s) :=
  State.readByte_of_readable (State.ram_answers ram _).1

/-- On RAM a word is read, or its address is odd. -/
theorem State.readWord_of_ram (k : Space) (a : Word) :
    s.readWord k a = .ok (s.wordAt k a, s) ∨ a.getLsbD 0 = true ∧ s.readWord k a = .error (.misaligned k a) := by
  cases parity : a.getLsbD 0 with
  | false => exact .inl (State.readWord_of_can (by rw [(State.ram_canWord ram k a).1, parity]; rfl))
  | true => exact .inr ⟨rfl, s.readWord_odd k a parity⟩

/-- On RAM a word is written, and only memory changes, or its address is odd. -/
theorem State.writeWord_of_ram (k : Space) (a v : Word) :
    (∃ m, s.writeWord k a v = .ok (s.setMem m)) ∨
      a.getLsbD 0 = true ∧ s.writeWord k a v = .error (.misaligned k a) := by
  cases parity : a.getLsbD 0 with
  | false =>
    have can : s.canWriteWord k a = true := by
      rw [(State.ram_canWord ram k a).2, parity]
      rfl
    exact .inl ⟨(s.putWord k a v).mem, State.writeWord_of_can v can⟩
  | true => exact .inr ⟨rfl, s.writeWord_odd k a v parity⟩

variable {i : Instr}

theorem StopsOnlyUndefined.readWord {k : Space} {a : Word} {rest : Word × State → Result}
    (after : ∀ v, StopsOnlyUndefined i (rest (v, s))) :
    StopsOnlyUndefined i (andThen (s.readWord k a) rest) := by
  obtain read | ⟨odd, stopped⟩ := State.readWord_of_ram ram k a
  · rw [read, andThen_ok]
    exact after _
  · rw [stopped, andThen_error]
    exact .inl ⟨k, a, rfl, odd⟩

theorem StopsOnlyUndefined.writeWord {k : Space} {a v : Word} {rest : State → Result}
    (after : ∀ m, StopsOnlyUndefined i (rest (s.setMem m))) :
    StopsOnlyUndefined i (andThen (s.writeWord k a v) rest) := by
  obtain ⟨m, written⟩ | ⟨odd, stopped⟩ := State.writeWord_of_ram ram k a v
  · rw [written, andThen_ok]
    exact after m
  · rw [stopped, andThen_error]
    exact .inl ⟨k, a, rfl, odd⟩

/-! ### The shapes of the meanings that can stop -/

theorem loadByte_stops (d : Gpr) (k : Space) (a : Word) : StopsOnlyUndefined i (loadByte s d k a) := by
  rw [loadByte_of_read d (State.readByte_of_ram ram k a)]
  trivial

theorem storeByte_stops (v : Word) (k : Space) (a : Word) : StopsOnlyUndefined i (storeByte s v k a) := by
  rw [storeByte_of_can v (State.ram_answers ram _).2]
  trivial

theorem loadWord_stops (d : Reg) (k : Space) (a : Word) : StopsOnlyUndefined i (loadWord s d k a) :=
  .readWord ram fun _ => trivial

theorem storeWord_stops (v : Word) (k : Space) (a : Word) : StopsOnlyUndefined i (storeWord s v k a) :=
  .writeWord ram fun _ => trivial

theorem pushWordOp_stops (v : Word) : StopsOnlyUndefined i (pushWordOp s v) := .writeWord ram fun _ => trivial

theorem memAlu_stops (f : Word → Word → Word × Flags) (d : Gpr) (b : Reg) (n : BitVec 7) :
    StopsOnlyUndefined i (memAlu f d b n s) := .readWord ram fun _ => trivial

theorem incMem_stops (r : Gpr) (a delta : Word) : StopsOnlyUndefined i (incMem r a delta s) :=
  .readWord ram fun _ => .writeWord ram fun _ => trivial

theorem execPop_stops (r : Gpr) : StopsOnlyUndefined i (execPop r s) := .readWord ram fun _ => trivial

theorem execLs5r_stops (r : Gpr) : StopsOnlyUndefined i (execLs5r r s) :=
  .readWord ram fun _ => .readWord ram fun _ => trivial

theorem execSs5r_stops (r : Gpr) : StopsOnlyUndefined i (execSs5r r s) :=
  .writeWord ram fun m => .writeWord (s := s.setMem m) ram fun _ => trivial

theorem interruptEntry_stops (vector savedpc : Word) : StopsOnlyUndefined i (s.interruptEntry vector savedpc) :=
  .writeWord ram fun _ => trivial

theorem interruptReturn_stops : StopsOnlyUndefined i s.interruptReturn := .readWord ram fun _ => trivial

end Ram

/-- There is no selector only for numbers above 7. -/
theorem selectorNumber_none {n : Word} (none : selectorNumber n = none) : 8 ≤ n.toNat := by
  by_contra small
  exact absurd (none.symm.trans (selectorNumber_of_lt (k := ⟨n.toNat, by omega⟩) rfl)) nofun

theorem execMsr_stops {i : Instr} (n : Gpr) (q : Reg) (s : State) : StopsOnlyUndefined i (execMsr n q s) := by
  unfold execMsr
  split
  · trivial
  · next none => exact .inr ⟨_, rfl, selectorNumber_none none⟩

theorem execMrs_stops {i : Instr} (d n : Gpr) (s : State) : StopsOnlyUndefined i (execMrs d n s) := by
  unfold execMrs
  split
  · trivial
  · next none => exact .inr ⟨_, rfl, selectorNumber_none none⟩

/-- On RAM whatever instruction stops does so where the spec leaves it undefined: one shape per kind of meaning. -/
theorem exec_stops (i : Instr) {s : State} (ram : s.platform = []) : StopsOnlyUndefined i (exec i s) := by
  cases i with
  | lbImm _ _ _ | lbReg _ _ _ => exact loadByte_stops ram _ _ _
  | lwImm _ _ _ | lwReg _ _ _ => exact loadWord_stops ram _ _ _
  | sbImm _ _ _ | sbReg _ _ _ => exact storeByte_stops ram _ _ _
  | swImm _ _ _ | swReg _ _ _ => exact storeWord_stops ram _ _ _
  | addm _ _ _ => exact memAlu_stops ram (fun a m => addFlags a m false) _ _ _
  | subm _ _ _ => exact memAlu_stops ram (fun a m => subFlags a m false) _ _ _
  | incmInd _ | decmInd _ | dincmInd _ | ddecmInd _ | incmSp _ _ | decmSp _ _ | dincmSp _ _ | ddecmSp _ _ =>
    exact incMem_stops ram _ _ _
  | pushImm _ | pushReg _ => exact pushWordOp_stops ram _
  | pop _ => exact execPop_stops ram _
  | ls5r _ => exact execLs5r_stops ram _
  | ss5r _ => exact execSs5r_stops ram _
  | swi _ => exact interruptEntry_stops ram _ _
  | reti => exact interruptReturn_stops ram
  | msr _ _ => exact execMsr_stops _ _ _
  | mrs _ _ => exact execMrs_stops _ _ _
  | andImm _ _ | orImm _ _ | xorImm _ _ | adcz _ | addImm _ _ _ | neg _ | addReg _ _ | adcReg _ _ | subReg _ _
  | sbbReg _ _ | andReg _ _ | orReg _ _ | xorReg _ _ | sac _ _ _ | cadd24 | csub34 | srReg _ _ | slReg _ _ | asrReg _ _
  | rlReg _ _ | rrReg _ _ | srImm _ _ | slImm _ _ | asrImm _ _ | rlImm _ _ | add22adc33 | cadd24adc3z | cmpImm _ _
  | cmpReg _ _ | zxt _ | sxt _ | cpl _ | lurpc _ _ | li _ _ | mov _ _ | m2f | addSp _ _ | stc | mf2
  | jc _ | jz _ | js _ | jleu _ | jl _ | jle _ | jo _ | jno _ | jnc _ | jnz _ | jns _ | jgu _ | jge _ | jg _
  | j _ | addPc _ _ | jal _ | addPcLink _ _ | last _ | di | ei => trivial
  | addu d _ => cases d <;> trivial
  | reservedIncm _ _ | reservedSwSp _ | reservedLiSp _ | reservedSs5r _ | reservedDincmSp _ _ | reservedMrs _
  | reservedSr _ | reservedSl _ _ | reservedAsr _ | reservedRl _ | reservedHlt _ | reservedRegReg _ _ _ _ _ =>
    exact ⟨rfl, rfl⟩

/-! ### A step -/

theorem ignoredBits_of_isReserved {i : Instr} (reserved : i.isReserved = true) : i.ignoredBits = 0 := by
  cases i with
  | reservedIncm _ _ | reservedSwSp _ | reservedLiSp _ | reservedSs5r _ | reservedDincmSp _ _ | reservedMrs _
  | reservedSr _ | reservedSl _ _ | reservedAsr _ | reservedRl _ | reservedHlt _ | reservedRegReg _ _ _ _ _ => rfl
  | _ => cases reserved

/-- Reserved instructions have no ignored bits, so they name their word. -/
theorem encode_of_isReserved {w : Word} (reserved : (decodeWord w).isReserved = true) : encode (decodeWord w) = w := by
  obtain ⟨-, agrees⟩ := decodeWord_faithful w
  exact (agrees.eq_encode (ignoredBits_of_isReserved reserved)).symm

/-- Settles O14: an entry, a fetch and an instruction each stop only so, and the fetched word is what is refused. -/
theorem stopsOnlyWhereUndefined : Obligations.StopsOnlyWhereUndefined := by
  intro s ram
  obtain ⟨-, -, -, -, -, -, -, -, platform, -⟩ := s.latchIrq_frame
  have ram_latched : s.latchIrq.platform = [] := platform.trans ram
  cases pending : s.latchIrq.irqPending with
  | true =>
    have stops := exec_stops (.swi 31) ram_latched
    rw [step_of_pending pending]
    refine ⟨fun f stopped => ?_, fun r refused => ?_⟩
    · rwa [stopped] at stops
    · rw [refused] at stops
      exact absurd stops.1 nofun
  | false =>
    obtain read | ⟨odd, stopped⟩ := State.readWord_of_ram ram .code s.pc
    · have fetched : s.latchIrq.fetch = .ok (s.wordAt .code s.pc, s.latchIrq) := by
        rw [s.fetch_latchIrq, State.fetch, read, s.latchIrq_eq]
        rfl
      have stops := exec_stops (decodeWord (s.wordAt .code s.pc)) ram_latched
      rw [step_of_fetched pending fetched]
      refine ⟨fun f stopped => ?_, fun r refused => ?_⟩
      · rwa [stopped] at stops
      · rw [refused] at stops
        obtain ⟨reserved, named⟩ := stops
        exact ⟨_, read, reserved, named.trans (congrArg Refusal.reservedEncoding (encode_of_isReserved reserved))⟩
    · have unfetched : s.latchIrq.fetch = .error (.misaligned .code s.pc) := by
        rw [s.fetch_latchIrq, State.fetch, stopped]
        rfl
      have faults : step s = .fault (.misaligned .code s.pc) := step_of_unfetched pending unfetched
      rw [faults]
      exact ⟨fun f same => .inl ⟨.code, s.pc, (Host.Outcome.fault.inj same).symm, odd⟩, fun r => nofun⟩

/-- Settles O4: the twelve reserved constructors are refused with their word. -/
theorem reservedWordsRefused : Obligations.ReservedWordsRefused := fun _ =>
  ⟨fun _ _ => rfl, fun _ => rfl, fun _ => rfl, fun _ => rfl, fun _ _ => rfl, fun _ => rfl, fun _ => rfl, fun _ _ => rfl,
    fun _ => rfl, fun _ => rfl, fun _ => rfl, fun _ _ _ _ _ => rfl⟩

end Sys2Proof.Machine

namespace Sys2Proof

/-- Settles O3: each word is decoded. -/
theorem sampleWordsDecode : Obligations.SampleWordsDecode := by
  unfold Obligations.SampleWordsDecode
  decide

end Sys2Proof

/-! Moves and the ALU (43_moves_flags.md, 44_alu.md, 45_shifts.md section 2). -/

namespace Sys2Proof.Machine

/-! ### Sums and differences with a carry, as words -/

/-- A carry as a word. -/
theorem ofNat_carry (c : Bool) : BitVec.ofNat 16 c.toNat = if c then 1 else 0 := by
  cases c <;> rfl

theorem addFlags_value_word (a b : Word) (c : Bool) : (addFlags a b c).1 = a + b + if c then 1 else 0 := by
  rw [addFlags_value, BitVec.ofNat_add, BitVec.ofNat_add, BitVec.ofNat_toNat, BitVec.ofNat_toNat, BitVec.setWidth_eq,
    BitVec.setWidth_eq, ofNat_carry]

theorem subFlags_value_word (a b : Word) (c : Bool) : (subFlags a b c).1 = a - b - if c then 1 else 0 := by
  rw [subFlags_value, sub_eq_add_neg, sub_eq_add_neg, BitVec.ofInt_add, BitVec.ofInt_add, BitVec.ofInt_neg,
    BitVec.ofInt_neg, ofInt_toNat, ofInt_toNat, BitVec.ofInt_natCast, ofNat_carry, ← sub_eq_add_neg, ← sub_eq_add_neg]

theorem subFlags_value_false (a b : Word) : (subFlags a b false).1 = a - b := by
  rw [subFlags_value_word]
  exact sub_zero (a - b)

section Results
variable (s : State) (d : Gpr) (a b : Word)

theorem wroteReg_addFlags (c : Bool) : ∃ t, aluResult s d (addFlags a b c) = .next t ∧
    WroteReg s t d (a + b + if c then 1 else 0) (addFlags a b c).2 := by
  rw [← addFlags_value_word]
  exact wroteReg_aluResult s d _ _

theorem wroteReg_addFlags_false : ∃ t, aluResult s d (addFlags a b false) = .next t ∧
    WroteReg s t d (a + b) (addFlags a b false).2 := by
  rw [← addFlags_value_false]
  exact wroteReg_aluResult s d _ _

theorem wroteReg_subFlags (c : Bool) : ∃ t, aluResult s d (subFlags a b c) = .next t ∧
    WroteReg s t d (a - b - if c then 1 else 0) (subFlags a b c).2 := by
  rw [← subFlags_value_word]
  exact wroteReg_aluResult s d _ _

theorem wroteReg_subFlags_false : ∃ t, aluResult s d (subFlags a b false) = .next t ∧
    WroteReg s t d (a - b) (subFlags a b false).2 := by
  rw [← subFlags_value_false]
  exact wroteReg_aluResult s d _ _

theorem wroteFlags_flagsResult (f : Flags) : ∃ t, flagsResult s f = .next t ∧ WroteFlags s t f :=
  ⟨_, rfl, rfl, rfl, rfl, advanced_of_pc rfl, fun _ _ => rfl, fun _ _ => rfl, SameSystem.refl s⟩

end Results

/-! ### The ALU -/

/-- Settles O43: one result lemma for each of the five operations. -/
theorem addSubReg : Obligations.AddSubReg := fun s r _ =>
  ⟨wroteReg_addFlags_false s r _ _, wroteReg_addFlags s r _ _ _, wroteReg_subFlags_false s r _ _,
    wroteReg_subFlags s r _ _ _, wroteFlags_flagsResult s _⟩

/-- Settles O44: `logicResult` of the combined value. -/
theorem logicReg : Obligations.LogicReg := fun s r _ =>
  ⟨wroteReg_logicResult s r _, wroteReg_logicResult s r _, wroteReg_logicResult s r _⟩

theorem shiftCount_eq (v : Word) : shiftCount v = v.toNat % 16 := by
  rw [shiftCount, BitVec.extractLsb'_toNat, Nat.shiftRight_zero]

theorem wroteReg_shiftByReg (f : Word → Nat → Word) (r : Gpr) (q : Reg) (s : State) :
    ∃ t, shiftByReg f r q s = .next t ∧
      WroteReg s t r (f (s.gpr r) ((s.src q).toNat % 16)) (logicFlags (f (s.gpr r) ((s.src q).toNat % 16))) := by
  rw [← shiftCount_eq]
  exact wroteReg_logicResult s r _

/-- Settles O45: each is `shiftByReg` of its operation. -/
theorem shiftReg : Obligations.ShiftReg := by
  intro s r q i f listed
  simp only [List.mem_cons, List.not_mem_nil, or_false, Prod.mk.injEq] at listed
  obtain ⟨rfl, rfl⟩ | ⟨rfl, rfl⟩ | ⟨rfl, rfl⟩ | ⟨rfl, rfl⟩ | ⟨rfl, rfl⟩ := listed
  all_goals exact wroteReg_shiftByReg _ r q s

/-- Settles O40: the decoder's rows, and the results with the immediate sign-extended. -/
theorem cmpAddImm : Obligations.CmpAddImm :=
  ⟨fun r d b i => ⟨decodeWord_cmpImm r i, decodeWord_addImm d b i⟩, fun s _ =>
    ⟨fun _ => wroteFlags_flagsResult s _, fun d _ => wroteReg_addFlags_false s d _ _⟩⟩

/-- SubFlags of 0 and a word: it borrows unless the word is 0, and overflows only for 0x8000. -/
theorem subFlags_zero_left (v : Word) :
    (subFlags 0 v false).2.c = decide (v ≠ 0) ∧ (subFlags 0 v false).2.o = decide (v = 0x8000) := by
  constructor
  · rw [Bool.eq_iff_iff, subFlags_borrow_iff, decide_eq_true_iff, ← BitVec.toNat_ne_iff_ne]
    exact Nat.pos_iff_ne_zero
  · have least : v = 0x8000 ↔ v.toInt = -32768 := (BitVec.toInt_inj (y := 0x8000#16)).symm
    have lower : -32768 ≤ v.toInt := BitVec.le_toInt v
    have upper : v.toInt < 32768 := BitVec.toInt_lt
    have zero : (0 : Word).toInt = 0 := rfl
    have no_borrow : ((false.toNat : Nat) : Int) = 0 := rfl
    rw [Bool.eq_iff_iff, subFlags_overflow_iff, decide_eq_true_iff, least, zero, no_borrow]
    omega

/-- Settles O38: the decoder's rows, SubFlags of 0 and the register, AddFlags of the register and C. -/
theorem negAdcz : Obligations.NegAdcz := by
  refine ⟨fun r x y => ⟨decodeWord_neg r x, ?adczRow⟩, fun s r => ⟨?neg, ?adcz⟩⟩
  case adczRow =>
    rw [← decodeWord_adcz r y, fieldsWord_imm6]
    rfl
  case neg =>
    obtain ⟨t, ran, wrote⟩ := wroteReg_subFlags_false s r 0 (s.gpr r)
    rw [zero_sub] at wrote
    have ⟨_, flags, _⟩ := wrote
    obtain ⟨borrow, overflow⟩ := subFlags_zero_left (s.gpr r)
    exact ⟨t, ran, wrote, flags ▸ borrow, flags ▸ overflow⟩
  case adcz =>
    have wrote := wroteReg_addFlags s r (s.gpr r) 0 s.flags.c
    rw [add_zero] at wrote
    exact wrote

/-- A sign-extended byte repeats its bit 7 above it. -/
theorem getLsbD_sext_byte (v : Word) {k : Nat} (small : k < 16) :
    (sext (v.extractLsb' 0 8)).getLsbD k = v.getLsbD (min k 7) := by
  rw [sext, BitVec.getLsbD_signExtend, decide_eq_true small, Bool.true_and, BitVec.msb_eq_getLsbD_last,
    BitVec.getLsbD_extractLsb', BitVec.getLsbD_extractLsb', Nat.zero_add, Nat.zero_add]
  by_cases low : k < 8
  · rw [if_pos low, decide_eq_true low, Bool.true_and, Nat.min_eq_left (by omega)]
  · rw [if_neg low, Nat.min_eq_right (by omega)]
    rfl

/-- Settles O37: the decoder's rows, and `plainResult` of the three values. -/
theorem zxtSxtCpl : Obligations.ZxtSxtCpl := by
  refine ⟨fun r x => ⟨decodeWord_zxt r x, decodeWord_sxt r x, decodeWord_cpl r x⟩, fun s r =>
    ⟨wroteReg_plainResult s r _, ?sxt, wroteReg_plainResult s r _⟩⟩
  obtain ⟨t, ran, wrote⟩ := wroteReg_plainResult s r (sext ((s.gpr r).extractLsb' 0 8))
  have ⟨value, _⟩ := wrote
  refine ⟨t, ran, value.symm ▸ wrote, fun k small => ?_⟩
  rw [value, getLsbD_sext_byte _ small]

/-! ### sp -/

theorem lastBytes_eq_ofNat (k : BitVec 6) : lastBytes k = BitVec.ofNat 16 (2 * k.toNat) := by
  rw [lastBytes, BitVec.shiftLeft_eq_mul_twoPow, BitVec.mul_comm, BitVec.ofNat_mul, zext_eq_ofNat]
  rfl

theorem lastBytes_even (k : BitVec 6) : (lastBytes k).getLsbD 0 = false := by
  rw [lastBytes, BitVec.getLsbD_shiftLeft]
  rfl

/-- Settles O42: the sum with bit 0 dropped; from an even sp the raised one is even. -/
theorem addSpLast : Obligations.AddSpLast := by
  refine fun s => ⟨fun b i => ⟨_, rfl, wroteSp_setSp s _⟩, fun k even => ?last⟩
  have raised_even : (s.sp + lastBytes k).getLsbD 0 = false := getLsbD_zero_add_of_even even (lastBytes_even k)
  rw [← lastBytes_eq_ofNat]
  exact ⟨_, rfl, dropBit0_of_even raised_even, rfl, rfl, rfl, fun _ _ => rfl, fun _ _ => rfl, SameSystem.refl s⟩

/-! ### Moves -/

/-- Settles O34: `plainResult` of the immediate or of what the source reads. -/
theorem liMov : Obligations.LiMov := fun s d =>
  ⟨fun _ => wroteReg_plainResult s d _, fun _ => wroteReg_plainResult s d _, wroteReg_plainResult s d _,
    wroteReg_plainResult s d _⟩

/-- Settles O36: the decoder's row, and C written; Z, S and O are fresh. -/
theorem setCarry : Obligations.SetCarry :=
  ⟨decodeWord_stc, fun s => ⟨_, rfl, rfl, rfl, advanced_of_pc rfl, fun _ _ => rfl, fun _ _ => rfl,
    SameSystem.refl s⟩⟩

@[simp] theorem boolBit_getElem_zero (b : Bool) : (boolBit b)[0] = b := by cases b <;> rfl

/-- The layout of the flags register (R28). -/
theorem State.flagsWord_bits (s : State) :
    (∀ k, k < 6 → s.flagsWord.getLsbD (10 + k) = s.mask.getLsbD k ∧ s.flagsWord.getLsbD (4 + k) = s.req.getLsbD k) ∧
      s.flagsWord.getLsbD 3 = s.flags.o ∧ s.flagsWord.getLsbD 2 = s.flags.s ∧ s.flagsWord.getLsbD 1 = s.flags.z ∧
      s.flagsWord.getLsbD 0 = s.flags.c := by
  simp only [State.flagsWord, BitVec.getLsbD_append]
  refine ⟨fun k small => ⟨?mask, ?req⟩, ?o, ?s, ?z, ?c⟩
  case mask => simp [show ¬10 + k < 1 by omega]
  case req => simp [show ¬4 + k < 1 by omega, small]
  all_goals simp

theorem getLsbD_extractLsb'_six (v : Word) (start : Nat) {k : Nat} (small : k < 6) :
    (v.extractLsb' start 6).getLsbD k = v.getLsbD (start + k) := by
  rw [BitVec.getLsbD_extractLsb', decide_eq_true small, Bool.true_and]

/-- Settles O35: the layout of the word that m2f writes, and of r2 as mf2 reads it. -/
theorem flagsRegisterMoves : Obligations.FlagsRegisterMoves := by
  refine fun s => ⟨?m2f, ⟨_, exec_mf2 s, fun k small => ⟨getLsbD_extractLsb'_six _ 10 small, ?req⟩, rfl, rfl, rfl, rfl,
    rfl, rfl, rfl, rfl, rfl, rfl, rfl, advanced_of_pc rfl, fun _ _ => rfl, fun _ _ => rfl⟩⟩
  case m2f =>
    obtain ⟨t, ran, wrote⟩ := wroteReg_plainResult s .r2 s.flagsWord
    have ⟨value, _⟩ := wrote
    refine ⟨t, ran, value.symm ▸ wrote, ?_⟩
    rw [value]
    exact s.flagsWord_bits
  case req =>
    rw [← getLsbD_extractLsb'_six _ 4 small]
    exact BitVec.getLsbD_and

end Sys2Proof.Machine

/-! sac and the multiplication and division helpers (46_lurpc_muldiv.md), with their 32-bit results. -/

namespace Sys2Proof.Machine

/-- A word shifted left is its product with the power of two, modulo 2^16. -/
theorem shiftLeft_eq_ofNat (v : Word) (n : Nat) : v <<< n = BitVec.ofNat 16 (v.toNat * 2 ^ n) := by
  refine BitVec.eq_of_toNat_eq ?_
  rw [BitVec.toNat_shiftLeft, BitVec.toNat_ofNat, Nat.shiftLeft_eq]

/-- Settles O48: the shifted register as a number, and AddFlags. -/
theorem shiftAndAccumulate : Obligations.ShiftAndAccumulate := by
  intro s d p k
  rw [← shiftLeft_eq_ofNat]
  exact wroteReg_addFlags_false s d _ _

/-! ### Two words as one 32-bit number -/

theorem append_toNat (hi lo : Word) : (hi ++ lo).toNat = hi.toNat * 65536 + lo.toNat := by
  rw [BitVec.toNat_append, ← Nat.shiftLeft_add_eq_or_of_lt (BitVec.isLt _), Nat.shiftLeft_eq]

/-- Adding the low words and then the high words with the carry adds the 32-bit numbers. -/
theorem addFlags_append (a₁ a₀ b₁ b₀ : Word) :
    (addFlags a₁ b₁ (addFlags a₀ b₀ false).2.c).1 ++ (addFlags a₀ b₀ false).1 = (a₁ ++ a₀) + (b₁ ++ b₀) := by
  have carry := addFlags_carry_iff a₀ b₀ false
  have a₀_lt := a₀.isLt
  have b₀_lt := b₀.isLt
  refine BitVec.eq_of_toNat_eq ?_
  rw [BitVec.toNat_add, append_toNat, append_toNat, append_toNat, addFlags_value, addFlags_value, BitVec.toNat_ofNat,
    BitVec.toNat_ofNat]
  cases carried : (addFlags a₀ b₀ false).2.c with
  | false =>
    rw [carried] at carry
    simp only [Bool.false_eq_true, Bool.toNat_false, false_iff] at carry ⊢
    omega
  | true =>
    rw [carried] at carry
    simp only [Bool.toNat_false, Bool.toNat_true, true_iff] at carry ⊢
    omega

/-- A word with a zero word above it is the word, zero-extended. -/
theorem zero_append_word (v : Word) : (0 : Word) ++ v = v.setWidth 32 :=
  (BitVec.setWidth_eq_append (by decide : 16 ≤ 32) (x := v)).symm

/-- Doubling a word carries its top bit out, whatever is carried in. -/
theorem addFlags_self_carry (v : Word) (c : Bool) : (addFlags v v c).2.c = v.msb := by
  have carry_le := Bool.toNat_le c
  rw [Bool.eq_iff_iff, addFlags_carry_iff, BitVec.msb_eq_decide, decide_eq_true_iff]
  omega

/-! ### The helpers -/

/-- r2 and r3 and the flags written: what add22adc33 and cadd24adc3z do. -/
theorem wrote_r2_r3 (s : State) (v2 v3 : Word) (f : Flags) :
    ∃ t, (.next (((s.advance.setGpr .r2 v2).setGpr .r3 v3).setFlags f) : Result) = .next t ∧
      t.gpr .r3 ++ t.gpr .r2 = v3 ++ v2 ∧ t.flags = f ∧ t.sp = s.sp ∧ t.draws = s.draws ∧ Advanced s t ∧
      Frame s t [.r2, .r3] [] := by
  obtain ⟨high, low, others⟩ := setGpr_setGpr s.advance .r2 .r3 v2 v3
  have both : ((s.advance.setGpr .r2 v2).setGpr .r3 v3).gpr .r3 ++ ((s.advance.setGpr .r2 v2).setGpr .r3 v3).gpr .r2 =
      v3 ++ v2 := by rw [high, low nofun]
  exact ⟨_, rfl, both, rfl, rfl, rfl, advanced_of_pc rfl,
    fun g other => others g (not_mem_pair other).1 (not_mem_pair other).2, fun _ _ => rfl, SameSystem.refl s⟩

theorem exec_add22adc33 (s : State) :
    exec .add22adc33 s = .next (((s.advance.setGpr .r2 (addFlags (s.gpr .r2) (s.gpr .r2) false).1).setGpr .r3
      (addFlags (s.gpr .r3) (s.gpr .r3) (addFlags (s.gpr .r2) (s.gpr .r2) false).2.c).1).setFlags
      (addFlags (s.gpr .r3) (s.gpr .r3) (addFlags (s.gpr .r2) (s.gpr .r2) false).2.c).2) := rfl

theorem exec_cadd24adc3z (s : State) :
    exec .cadd24adc3z s =
      .next (((s.advance.setGpr .r2 (addFlags (s.gpr .r2) (carryR4 s s.flags.c) false).1).setGpr .r3
        (addFlags (s.gpr .r3) 0 (addFlags (s.gpr .r2) (carryR4 s s.flags.c) false).2.c).1).setFlags
        (addFlags (s.gpr .r3) 0 (addFlags (s.gpr .r2) (carryR4 s s.flags.c) false).2.c).2) := rfl

/-- csub34 subtracts r4 and adds it back after a borrow. -/
theorem exec_csub34 (s : State) :
    exec .csub34 s = aluResult s .r3 (addFlags (s.gpr .r3 - s.gpr .r4)
      (if (s.gpr .r3).toNat < (s.gpr .r4).toNat then s.gpr .r4 else 0) false) := by
  have borrow : (subFlags (s.gpr .r3) (s.gpr .r4) false).2.c = true ↔ (s.gpr .r3).toNat < (s.gpr .r4).toNat :=
    subFlags_borrow_iff (s.gpr .r3) (s.gpr .r4) false
  rw [← subFlags_value_false, ← if_congr borrow rfl rfl]
  rfl

theorem carryR4_append (s : State) (c : Bool) :
    (0 : Word) ++ carryR4 s c = if c then (s.gpr .r4).setWidth 32 else 0 := by
  cases c with
  | false =>
    change (0 : Word) ++ (0 : Word) = (0 : BitVec 32)
    decide
  | true => exact zero_append_word (s.gpr .r4)

/-- Adding the subtrahend back after a borrow restores the number and carries; without a borrow nothing is added. -/
theorem restoring_subtract (a b : Word) :
    (addFlags (a - b) (if a.toNat < b.toNat then b else 0) false).1 = (if b.toNat ≤ a.toNat then a - b else a) ∧
      (addFlags (a - b) (if a.toNat < b.toNat then b else 0) false).2.c = decide (a.toNat < b.toNat) := by
  rw [addFlags_value_false, Bool.eq_iff_iff, addFlags_carry_iff, decide_eq_true_iff]
  have b_lt := b.isLt
  by_cases borrow : a.toNat < b.toNat
  · rw [if_pos borrow, if_neg (Nat.not_le.mpr borrow), sub_add_cancel, BitVec.toNat_sub, Bool.toNat_false]
    exact ⟨rfl, by omega⟩
  · have difference_lt := (a - b).isLt
    rw [if_neg borrow, if_pos (Nat.not_lt.mp borrow), add_zero, Bool.toNat_false, show (0 : Word).toNat = 0 from rfl]
    exact ⟨rfl, by omega⟩

/-- Settles O49: the decoder's rows, the two 32-bit additions, the conditional addition and the restoring
subtraction. -/
theorem multiplyDivideHelpers : Obligations.MultiplyDivideHelpers := by
  refine ⟨⟨fun x => ⟨decodeWord_add22adc33 x, decodeWord_cadd24 x, decodeWord_cadd24adc3z x⟩, fun s =>
    ⟨?add22adc33, wroteReg_addFlags_false s .r2 _ _, ?cadd24adc3z⟩⟩, decodeWord_csub34, fun s => ?csub34⟩
  case add22adc33 =>
    obtain ⟨t, ran, value, flags, frame⟩ := wrote_r2_r3 s (addFlags (s.gpr .r2) (s.gpr .r2) false).1
      (addFlags (s.gpr .r3) (s.gpr .r3) (addFlags (s.gpr .r2) (s.gpr .r2) false).2.c).1
      (addFlags (s.gpr .r3) (s.gpr .r3) (addFlags (s.gpr .r2) (s.gpr .r2) false).2.c).2
    refine ⟨t, (exec_add22adc33 s).trans ran, value.trans (addFlags_append _ _ _ _), flags, ?_, frame⟩
    rw [flags, addFlags_self_carry]
  case cadd24adc3z =>
    obtain ⟨t, ran, value, flags, frame⟩ := wrote_r2_r3 s (addFlags (s.gpr .r2) (carryR4 s s.flags.c) false).1
      (addFlags (s.gpr .r3) 0 (addFlags (s.gpr .r2) (carryR4 s s.flags.c) false).2.c).1
      (addFlags (s.gpr .r3) 0 (addFlags (s.gpr .r2) (carryR4 s s.flags.c) false).2.c).2
    refine ⟨t, (exec_cadd24adc3z s).trans ran, ?_, flags, frame⟩
    rw [value, addFlags_append, carryR4_append]
  case csub34 =>
    obtain ⟨value, carry⟩ := restoring_subtract (s.gpr .r3) (s.gpr .r4)
    obtain ⟨t, ran, wrote⟩ := wroteReg_addFlags_false s .r3 (s.gpr .r3 - s.gpr .r4)
      (if (s.gpr .r3).toNat < (s.gpr .r4).toNat then s.gpr .r4 else 0)
    rw [← addFlags_value_false, value] at wrote
    have ⟨_, flags, _⟩ := wrote
    exact ⟨t, (exec_csub34 s).trans ran, wrote, (congrArg Flags.c flags).trans carry⟩

end Sys2Proof.Machine

/-! Conditional and indirect jumps (47_control.md). -/

namespace Sys2Proof.Machine

/-! ### Conditional jumps -/

/-- From an even pc a conditional jump goes to its target or to the next instruction. -/
theorem wentTo_jumpIf {s : State} (even : s.pc.getLsbD 0 = false) (taken : Bool) (d : BitVec 7) :
    ∃ t, jumpIf taken d s = .next t ∧
      WentTo s t (if taken then BitVec.ofInt 16 (s.pc.toNat + 2 + 2 * d.toInt) else s.pc + 2) := by
  rw [← State.relTarget_eq_ofInt]
  cases taken with
  | true => exact ⟨_, rfl, wentTo_setPc s (State.relTarget_even even d)⟩
  | false => exact ⟨_, rfl, wentTo_setPc s (State.npc_even even)⟩

/-- Settles O51: each is `jumpIf` of its condition. -/
theorem conditionalJumps : Obligations.ConditionalJumps := by
  intro s d i taken even listed
  simp only [List.mem_cons, List.not_mem_nil, or_false, Prod.mk.injEq, Bool.not_or] at listed
  obtain ⟨rfl, rfl⟩ | ⟨rfl, rfl⟩ | ⟨rfl, rfl⟩ | ⟨rfl, rfl⟩ | ⟨rfl, rfl⟩ | ⟨rfl, rfl⟩ | ⟨rfl, rfl⟩ | ⟨rfl, rfl⟩ |
    ⟨rfl, rfl⟩ | ⟨rfl, rfl⟩ | ⟨rfl, rfl⟩ | ⟨rfl, rfl⟩ | ⟨rfl, rfl⟩ | ⟨rfl, rfl⟩ := listed
  all_goals exact wentTo_jumpIf even _ d

/-! ### Indirect jumps -/

/-- An odd word with bit 0 dropped is one less. -/
theorem dropBit0_of_odd {v : Word} (odd : v.getLsbD 0 = true) : dropBit0 v = v - 1 := by
  have bit : v &&& 1#16 = 1#16 := by
    rw [BitVec.and_one_eq_setWidth_ofBool_getLsbD, odd]
    rfl
  have parts : dropBit0 v + 1#16 = v := by
    calc dropBit0 v + 1#16
      _ = (v &&& 0xFFFE#16) + (v &&& 1#16) := by rw [bit, dropBit0]
      _ = (v &&& 0xFFFE#16) ||| (v &&& 1#16) := by
        refine BitVec.add_eq_or_of_and_eq_zero _ _ ?_
        rw [bit, BitVec.and_assoc]
        exact BitVec.and_zero
      _ = v &&& (0xFFFE#16 ||| 1#16) := (BitVec.and_or_distrib_left).symm
      _ = v := BitVec.and_allOnes
  exact eq_sub_of_add_eq parts

/-- Only the value with bit 0 dropped reaches pc. -/
theorem State.setPc_dropBit0 (s : State) (v : Word) : s.setPc (dropBit0 v) = s.setPc v :=
  congrArg (fun pc => { s with pc := pc }) (dropBit0_of_even (dropBit0_getLsbD_zero v))

/-- Settles O53: the even part of an odd immediate is the immediate less 1. -/
theorem indirectJumps : Obligations.IndirectJumps := by
  refine fun s b i => ⟨fun _ => ⟨_, rfl, wentTo_setPc_dropBit0 s _⟩, fun odd => ?_⟩
  have even_part : dropBit0 (sext i) = BitVec.ofInt 16 (i.toInt - 1) := by
    rw [dropBit0_of_odd ((sext_getLsbD_zero i).trans odd), sub_eq_add_neg i.toInt, BitVec.ofInt_add, sub_eq_add_neg]
    rfl
  have ran : exec (.addPcLink b i) s = .next ((s.setGpr .r5 s.npc).setPc (s.gpr b + dropBit0 (sext i))) := rfl
  rw [ran, even_part, ← State.setPc_dropBit0]
  exact ⟨_, rfl, wentToLinking_setPc s (dropBit0_getLsbD_zero _)⟩

end Sys2Proof.Machine

/-! Numbers: the shifts and rotates (R210), what the jump conditions compare (R244 to R257), lo and hi (R103). -/

namespace Sys2Proof.Machine

/-! ### Shifts and rotates -/

/-- A rotate left moves bit i to position i + n, modulo 16. -/
theorem getLsbD_rotateLeft (v : Word) {n i : Nat} (n_lt : n < 16) (i_lt : i < 16) :
    (rotateLeft v n).getLsbD ((i + n) % 16) = v.getLsbD i := by
  rw [rotateLeft, BitVec.getLsbD_or, BitVec.getLsbD_shiftLeft, BitVec.getLsbD_ushiftRight]
  obtain wraps | stays := Nat.lt_or_ge (i + n) 16
  · have out : v.getLsbD (16 - n + (i + n)) = false := BitVec.getLsbD_of_ge _ _ (by omega)
    rw [Nat.mod_eq_of_lt wraps, out, Nat.add_sub_cancel, decide_eq_true wraps, decide_eq_false (by omega)]
    simp
  · have wrapped : (i + n) % 16 = i + n - 16 := by omega
    rw [wrapped, show 16 - n + (i + n - 16) = i by omega, decide_eq_true (by omega : i + n - 16 < n)]
    simp

/-- A rotate right moves bit i + n, modulo 16, to position i. -/
theorem getLsbD_rotateRight (v : Word) {n i : Nat} (n_lt : n < 16) (i_lt : i < 16) :
    (rotateRight v n).getLsbD i = v.getLsbD ((i + n) % 16) := by
  rw [rotateRight, BitVec.getLsbD_or, BitVec.getLsbD_ushiftRight, BitVec.getLsbD_shiftLeft]
  obtain stays | wraps := Nat.lt_or_ge (i + n) 16
  · rw [Nat.mod_eq_of_lt stays, decide_eq_true (by omega : i < 16 - n), Nat.add_comm n i]
    simp
  · have out : v.getLsbD (n + i) = false := BitVec.getLsbD_of_ge _ _ (by omega)
    have wrapped : (i + n) % 16 = i - (16 - n) := by omega
    rw [wrapped, out, decide_eq_true i_lt, decide_eq_false (by omega : ¬i < 16 - n)]
    simp

/-- Settles O16: the library's shifts as numbers, and the two halves of a rotate bit by bit. -/
theorem shiftFunctions : Obligations.ShiftFunctions := by
  refine fun v n n_lt => ⟨?sr, ?sl, ?asr, fun i i_lt => getLsbD_rotateLeft v n_lt i_lt, fun i i_lt =>
    getLsbD_rotateRight v n_lt i_lt⟩
  case sr => rw [shiftRight, BitVec.toNat_ushiftRight, Nat.shiftRight_eq_div_pow]
  case sl => rw [shiftLeft, BitVec.toNat_shiftLeft, Nat.shiftLeft_eq]
  case asr =>
    rw [shiftArith, BitVec.toInt_sshiftRight, Int.shiftRight_eq_div_pow, Int.fdiv_eq_ediv_of_nonneg _ (by positivity)]
    norm_cast

/-! ### Comparisons -/

section Compare
variable (a b : Word)

theorem subFlags_c_eq : (subFlags a b false).2.c = decide (a.toNat < b.toNat) := by
  rw [Bool.eq_iff_iff, subFlags_borrow_iff, decide_eq_true_iff]
  rfl

theorem subFlags_z_eq : (subFlags a b false).2.z = decide (a = b) := by
  rw [Bool.eq_iff_iff, (subFlags_zero_sign a b false).1, subFlags_value_false, sub_eq_zero, decide_eq_true_iff]

/-- S and O of a difference differ exactly when it is negative: O says that its sign came out wrong. -/
theorem subFlags_s_ne_o : ((subFlags a b false).2.s != (subFlags a b false).2.o) = decide (a.toInt < b.toInt) := by
  have a_bounds : -32768 ≤ a.toInt ∧ a.toInt < 32768 := ⟨BitVec.le_toInt a, BitVec.toInt_lt⟩
  have b_bounds : -32768 ≤ b.toInt ∧ b.toInt < 32768 := ⟨BitVec.le_toInt b, BitVec.toInt_lt⟩
  have negative : (subFlags a b false).2.s = decide ((a.toInt - b.toInt).bmod 65536 < 0) := by
    rw [(subFlags_zero_sign a b false).2, subFlags_value_false, BitVec.msb_eq_toInt, BitVec.toInt_sub]
  have overflow : (subFlags a b false).2.o = decide (a.toInt - b.toInt < -32768 ∨ 32767 < a.toInt - b.toInt) := by
    rw [Bool.eq_iff_iff, subFlags_overflow_iff, decide_eq_true_iff, Bool.toNat_false, Nat.cast_zero, sub_zero]
  rw [negative, overflow, Int.bmod_def, Bool.eq_iff_iff, bne_iff_ne, ne_eq, decide_eq_decide, decide_eq_true_iff]
  omega

end Compare

theorem beq_eq_not_bne (x y : Bool) : (x == y) = !(x != y) := (Bool.not_not (x == y)).symm

/-- Settles O17: each condition is made of C, Z and S ≠ O, which are the three relations of a difference. -/
theorem compareRelations : Obligations.CompareRelations := by
  intro a b
  have eq_iff_toNat : a = b ↔ a.toNat = b.toNat := BitVec.toNat_inj.symm
  have eq_iff_toInt : a = b ↔ a.toInt = b.toInt := BitVec.toInt_inj.symm
  refine ⟨subFlags_c_eq a b, subFlags_z_eq a b, ?leu, subFlags_s_ne_o a b, ?le, ?geu, ?ne, ?gu, ?ge, ?g⟩
  case leu =>
    rw [condLeu, subFlags_c_eq, subFlags_z_eq, ← Bool.decide_or, decide_eq_decide, eq_iff_toNat]
    omega
  case le =>
    rw [condLe, subFlags_z_eq, subFlags_s_ne_o, ← Bool.decide_or, decide_eq_decide, eq_iff_toInt]
    omega
  case geu =>
    rw [condNc, subFlags_c_eq, ← decide_not, decide_eq_decide]
    omega
  case ne => rw [condNz, subFlags_z_eq, ← decide_not]
  case gu =>
    rw [condGu, subFlags_c_eq, subFlags_z_eq, ← decide_not, ← decide_not, ← Bool.decide_and, decide_eq_decide,
      eq_iff_toNat]
    omega
  case ge =>
    rw [condGe, beq_eq_not_bne, subFlags_s_ne_o, ← decide_not, decide_eq_decide]
    omega
  case g =>
    rw [condG, beq_eq_not_bne, subFlags_z_eq, subFlags_s_ne_o, ← decide_not, ← decide_not, ← Bool.decide_and,
      decide_eq_decide, eq_iff_toInt]
    omega

end Sys2Proof.Machine

/-! ### lo and hi -/

namespace Sys2Proof.Asm

/-- `lo(v)` is what the 7 low bits are as a signed number, a multiple of 128 away from v. -/
theorem lo_toInt (v : Word) : (lo v).toInt = ((v.toNat % 128 : Nat) : Int).bmod 128 := by
  rw [lo, BitVec.toInt_signExtend_of_le (by decide), BitVec.toInt_eq_toNat_bmod, BitVec.extractLsb'_toNat,
    Nat.shiftRight_zero]

/-- Without `lo(v)`, v is 128 times `hi(v)`. -/
theorem ofNat_hi (v : Word) : BitVec.ofNat 16 ((hi v).toNat * 128) = v - lo v := by
  have rest : v - lo v = BitVec.ofInt 16 (v.toNat - (lo v).toInt) := by
    rw [sub_eq_add_neg, sub_eq_add_neg, BitVec.ofInt_add, BitVec.ofInt_neg, Machine.ofInt_toNat, BitVec.ofInt_toInt]
  have rest_toNat : ((v - lo v).toNat : Int) = (v.toNat - (lo v).toInt) % 65536 := by
    rw [rest, BitVec.toNat_ofInt]
    exact Int.toNat_of_nonneg (Int.emod_nonneg _ (by decide))
  rw [lo_toInt, Int.bmod_def] at rest_toNat
  refine BitVec.eq_of_toNat_eq ?_
  rw [hi, BitVec.toNat_ofNat, BitVec.extractLsb'_toNat, Nat.shiftRight_eq_div_pow]
  omega

/-- Sign-extending to 9 bits on the way changes nothing. -/
theorem ofInt_lo9 (v : Word) : BitVec.ofInt 16 (lo9 v).toInt = lo v := by
  rw [lo9, BitVec.toInt_signExtend_of_le (by decide)]
  rfl

end Sys2Proof.Asm

namespace Sys2Proof

/-- Settles O60: `lo` is a signed 7-bit number, and v less that is 128 times `hi`. -/
theorem constantFromHalves : Obligations.ConstantFromHalves := by
  intro v
  have signed := Int.bmod_def (v.toNat % 128 : Nat) 128
  rw [Asm.lo_toInt, Asm.ofNat_hi]
  exact ⟨sub_add_cancel v (Asm.lo v), by omega, by omega, Asm.ofInt_lo9 v, rfl⟩

end Sys2Proof

/-! The mini (49_mini.md): its reserved words, its loads and stores with signed offsets, `decs`, and its step. -/

namespace Sys2Proof.Machine

/-! ### Reserved words (R301) -/

/-- What is reserved, if anything, is the word `w` itself. -/
def MiniInstr.ReservesOnly (w : Word) (i : MiniInstr) : Prop := ∀ v, i = .reserved v → v = w

section Reserved
variable (w : Word)

@[simp] theorem reservesOnly_reserved : (MiniInstr.reserved w).ReservesOnly w := fun _ same =>
  (MiniInstr.reserved.inj same).symm

@[simp] theorem reservesOnly_shared (i : Instr) : (MiniInstr.shared i).ReservesOnly w := nofun

@[simp] theorem reservesOnly_lb (d : Gpr) (b : Reg) (i : BitVec 7) : (MiniInstr.lb d b i).ReservesOnly w := nofun

@[simp] theorem reservesOnly_lw (d b : Reg) (i : BitVec 7) : (MiniInstr.lw d b i).ReservesOnly w := nofun

@[simp] theorem reservesOnly_sb (r : Gpr) (b : Reg) (i : BitVec 7) : (MiniInstr.sb r b i).ReservesOnly w := nofun

@[simp] theorem reservesOnly_sw (r b : Reg) (i : BitVec 7) : (MiniInstr.sw r b i).ReservesOnly w := nofun

@[simp] theorem reservesOnly_decs (r : Gpr) (k : BitVec 6) : (MiniInstr.decs r k).ReservesOnly w := nofun

@[simp] theorem reservesOnly_onGpr (r : Reg) (k : Gpr → Instr) : (onGpr w r k).ReservesOnly w := by
  cases r with
  | gpr g => exact reservesOnly_shared w (k g)
  | sp | pc => exact reservesOnly_reserved w

theorem decodeMini2_reservesOnly : (decodeMini2 w).ReservesOnly w := by
  unfold decodeMini2
  split <;> simp

theorem decodeMini4_reservesOnly : (decodeMini4 w).ReservesOnly w := by
  unfold decodeMini4
  split <;> simp

theorem decodeMini5_reservesOnly : (decodeMini5 w).ReservesOnly w := by
  unfold decodeMini5
  repeat' split
  all_goals simp

theorem decodeMini6_reservesOnly : (decodeMini6 w).ReservesOnly w := by
  unfold decodeMini6
  split <;> simp

theorem decodeMiniJump_reservesOnly : (decodeMiniJump w).ReservesOnly w := by
  unfold decodeMiniJump
  split <;> simp

theorem decodeMiniAlu_reservesOnly : (decodeMiniAlu w).ReservesOnly w := by
  unfold decodeMiniAlu
  dsimp only
  repeat' split
  all_goals simp

theorem decodeMiniShift_reservesOnly : (decodeMiniShift w).ReservesOnly w := by
  unfold decodeMiniShift
  dsimp only
  repeat' split
  all_goals simp

theorem decodeMini7_reservesOnly : (decodeMini7 w).ReservesOnly w := by
  unfold decodeMini7
  split
  · exact decodeMiniJump_reservesOnly w
  · exact decodeMiniJump_reservesOnly w
  · exact decodeMiniAlu_reservesOnly w
  · exact decodeMiniShift_reservesOnly w

/-- A word the mini reserves decodes to itself as reserved: by the major opcodes. -/
theorem decodeMini_reservesOnly : (decodeMini w).ReservesOnly w := by
  unfold decodeMini
  split
  · split <;> simp
  · simp
  · exact decodeMini2_reservesOnly w
  · split <;> simp
  · exact decodeMini4_reservesOnly w
  · exact decodeMini5_reservesOnly w
  · exact decodeMini6_reservesOnly w
  · exact decodeMini7_reservesOnly w

end Reserved

/-! ### Meanings -/

/-- decs changes the word at its address by -1. -/
theorem execDecs_changes {s : State} {a : Word} (r : Gpr) (k : BitVec 6)
    (is_a : a = s.sp + BitVec.ofInt 16 (2 * k.toInt)) (read : s.canReadWord .data a = true)
    (write : s.canWriteWord .data a = true) :
    ∃ t, execMini (.decs r k) s = .next t ∧ t.wordAt .data a = s.wordAt .data a - 1 ∧ t.gpr r = s.wordAt .data a ∧
      (t.flags.z = true ↔ s.wordAt .data a - 1 = 0) ∧ t.flags.s = (s.wordAt .data a - 1).msb ∧
      t.sp = s.sp ∧ Advanced s t ∧ Frame s t [r] (s.wordBytes .data a) := by
  rw [← byteDistance_eq_ofInt] at is_a
  subst is_a
  rw [sub_eq_add_neg]
  exact incMem_changes r (-1) read write

/-- Settles O59: the step with the mini's decoder, the shared shapes of loads and stores, and the reserved words. -/
theorem miniDifferences : Obligations.MiniDifferences := by
  refine ⟨fun _ _ => rfl, fun s quiet can => stepWith_of_fetched .mini quiet (State.fetch_latchIrq_of_can can),
    fun s pending => (stepWith_of_pending .mini pending).trans (step_of_pending pending).symm, fun _ _ => rfl,
    fun s b i => ?loads_and_stores, fun s r k a is_a read write => execDecs_changes r k is_a read write,
    fun s w v reserved => ?refused, ?listed, by decide, by decide, by decide, by decide⟩
  case loads_and_stores =>
    exact ⟨fun d can => wroteReg_loadByte d can, fun d can => wroteReg_loadWord d can,
      fun can => ⟨wroteSp_loadWord can, wentTo_loadWord can⟩, fun r can => storedByte_storeByte (s.gpr r) can,
      fun r can => storedWord_storeWord (s.x r) can⟩
  case listed =>
    simp only [List.forall_mem_cons, List.not_mem_nil, false_implies, implies_true, and_true]
    decide
  case refused =>
    obtain rfl := decodeMini_reservesOnly w v reserved
    refine ⟨rfl, ?_⟩
    change execMini (decodeMini v) s = _
    rw [reserved]
    rfl

end Sys2Proof.Machine
